-- ==== Sys2Proof/Word.lean ====
section
/-! DEFINITION. The word types of the block (00_scope.md R16, R20): the byte, the 8-byte device address and the
9-byte scratchpad. Arithmetic on them stands in Machine/Numbers.lean. -/

namespace Sys2Proof

/-- A byte: 8 bits, bit 0 the least significant (R16). -/
abbrev Byte := BitVec 8

/-- `Addr` of R20: 8 bytes, index 0 the family code, index 7 the CRC of bytes 0 to 6 (R59). -/
abbrev Addr := Vector Byte 8

/-- `Pad` of R20: 9 bytes, laid out as R58 says. -/
abbrev Pad := Vector Byte 9

end Sys2Proof
end

