-- ==== Sys2Proof/Config.lean ====
section
/-! DEFINITION. The open parameters of the model (00_scope.md R10 to R15, "Open parameters" of 92_eei_decisions.md)
and the free values: opaque constants that nothing can evaluate. The parameters' default values stand in
Machine/Defaults.lean. -/

namespace Sys2Proof

/-- "A resolution is one of 9, 10, 11, 12 bits" (R8). -/
inductive Resolution where
  | r9 | r10 | r11 | r12
  deriving DecidableEq, Repr

/-- One value for each resolution: the shape of `RES_MASK` (R13) and of `T_CONV` (R14). -/
structure PerRes (α : Type) where
  r9 : α
  r10 : α
  r11 : α
  r12 : α
  deriving DecidableEq, Repr

/-- The `kind` of a family (R3, R11). -/
inductive FamilyKind where
  | legacy | standard
  deriving DecidableEq, Repr

/-- A positive rational `num / den`: the `conv_scale` of a family (R11). -/
structure Scale where
  num : Nat
  den : Nat
  deriving DecidableEq, Repr

/-- One record of the family table (R11). `fracBits` is not used by a legacy family. -/
structure Family where
  kind : FamilyKind
  fixedRes : Option Resolution
  fracBits : Fin 8
  hasEeprom : Bool
  convScale : Scale
  deriving DecidableEq, Repr

/-- The seven wire-level command bytes (R10). -/
structure WireBytes where
  skipRom : Byte
  convertT : Byte
  readScratch : Byte
  writeScratch : Byte
  copyScratch : Byte
  readPower : Byte
  alarmSearch : Byte
  deriving DecidableEq, Repr

/-- The parameters of the model: "not state, but parameters" (R30). A `State` carries one value of this type, which
no step changes (DESIGN CHOICE, log 1, safe: a statement about every state holds for every choice of them).
`RES_FAIL` is the byte that stands for "no resolution", which the model writes as `none` (log 11). -/
structure Params where
  wire : WireBytes
  family : List (Byte × Family)
  crcPolyR : Byte
  resMask : PerRes Byte
  tConv : PerRes Nat
  tCopy : Nat
  discFp : BitVec 32
  alarmDisc : Byte
  resFail : Byte
  deriving DecidableEq, Repr

/-- A presence answer of `Bus.Reset` beyond the script (R89, R98(a)): free, applied to the number of the draw.
DESIGN CHOICE, log 2, safe. -/
opaque Config.freePresence : Nat → Bool

/-- An answer of `Bus.ReadByte` beyond the script (R92, R98(a)). DESIGN CHOICE, log 2, safe. -/
opaque Config.freeByte : Nat → Byte

/-- An answer of `Bus.ReadBit` beyond the script (R93, R98(a)). DESIGN CHOICE, log 2, safe. -/
opaque Config.freeBit : Nat → Bool

/-- An answer of `Bus.SearchNext` beyond the script (R94, R98(a)): `none` for `f = 0`. DESIGN CHOICE, log 2, safe. -/
opaque Config.freeFound : Nat → Option Addr

/-- How many microseconds the clock advances beyond what a `Delay` asks, or up to a `Now()` (R96, R98(b)).
DESIGN CHOICE, log 9, safe. -/
opaque Config.freeTick : Nat → Nat

/-- The address `any()` that a failed GET_ADDR leaves in `ADDR_OUT` (R156). DESIGN CHOICE, log 7, safe. -/
opaque Config.freeAddr : Nat → Addr

/-- The byte `any()` that a read of a result register answers while BUSY (R87). DESIGN CHOICE, log 8, safe. -/
opaque Config.freeRead : Nat → Byte

end Sys2Proof
end

