-- ==== Sys2Proof/Syntax.lean ====
section
/-! DEFINITION. The commands of the block: one constructor per row of spec/opcode_table.json (30_encoding.md R113).
A command carries no operand: "the word has no register, immediate or mode field" (R110). -/

namespace Sys2Proof

/-- The 31 commands of R113, in the table's order. -/
inductive Instr where
  | nop
  | init
  | crcClr
  | crcPush
  | validAddr
  | addrEq
  | getAddr
  | getCount
  | isConn
  | isConnSp
  | readSp
  | writeSp
  | getRes
  | setRes
  | setGres
  | readPower
  | getTh
  | getTl
  | setTh
  | setTl
  | calcTemp
  | getTemp
  | getTempIdx
  | reqTemps
  | reqTempAddr
  | reqTempIdx
  | asReset
  | alarmSearch
  | hasAlarmAddr
  | hasAlarmAny
  | processAlarms
  deriving DecidableEq, Repr

end Sys2Proof
end

