-- ==== Sys2Proof/WellFormed.lean ====
section
/-! DEFINITION. What a well-formed command word and a well-formed choice of the parameters are. -/

namespace Sys2Proof

/-- The codes R113 assigns. Every other code of the 256 is illegal (R116). -/
def assignedCodes : List Byte :=
  [0x00, 0x01,
   0x10, 0x11, 0x18, 0x19, 0x1A, 0x1B, 0x1C, 0x1D,
   0x20, 0x21, 0x22, 0x23, 0x24, 0x25, 0x26, 0x27, 0x28, 0x29,
   0x30, 0x31, 0x32,
   0x40, 0x41, 0x42,
   0x50, 0x51, 0x52, 0x53, 0x54]

/-- A command word is well formed when R113 assigns its code. -/
def wellFormedCode (op : Byte) : Bool := assignedCodes.contains op

/-- Every command is well formed: none has an operand field whose value could be out of range (R110, R115). -/
def Instr.wellFormed (_ : Instr) : Bool := true

/-- The scale of R11 is a positive rational. -/
def Scale.wellFormed (c : Scale) : Bool := decide (0 < c.num ∧ 0 < c.den)

/-- "Exactly four codes are known" (R11): four rows and no code twice. -/
def familyCodesOk (t : List (Byte × Family)) : Bool :=
  decide (t.length = 4 ∧ (t.map Prod.fst).Nodup)

/-- "Exactly one kind is legacy with fixed resolution 12" (R11). -/
def legacyOk (t : List (Byte × Family)) : Bool :=
  match t.filter (fun e => e.2.kind == .legacy) with
  | [e] => e.2.fixedRes == some .r12
  | _ => false

/-- `RES_MASK` is injective (R13). -/
def resMaskOk (m : PerRes Byte) : Bool := decide [m.r9, m.r10, m.r11, m.r12].Nodup

/-- `T_CONV` is increasing in the resolution ("Open parameters"). -/
def tConvOk (t : PerRes Nat) : Bool := decide (t.r9 < t.r10 ∧ t.r10 < t.r11 ∧ t.r11 < t.r12)

/-- `DISC_FP` lies outside [-55 x 128, 125 x 128] (R15, "Open parameters"). -/
def discFpOk (d : BitVec 32) : Bool := decide (d.toInt < -55 * 128 ∨ 125 * 128 < d.toInt)

/-- `RES_FAIL` is a byte not in 9..12 ("Open parameters"). -/
def resFailOk (b : Byte) : Bool := decide (b.toNat < 9 ∨ 12 < b.toNat)

/-- The constraints the spec puts on its open parameters (R11, R13, "Open parameters" of 92_eei_decisions.md). -/
def Params.wellFormed (p : Params) : Bool :=
  familyCodesOk p.family && legacyOk p.family && p.family.all (fun e => e.2.convScale.wellFormed)
    && resMaskOk p.resMask && tConvOk p.tConv && discFpOk p.discFp && resFailOk p.resFail

end Sys2Proof
end

