-- ==== Sys2Proof/Decode.lean ====
section
/-! DEFINITION. Decoding and encoding a command word (30_encoding.md R110 to R117): total on the 256 bytes, an
unassigned code rejected by name. -/

namespace Sys2Proof

/-- Why a byte is no command: its code is not one of R113 (R116, R117). Safe: the machine takes `IllegalCommand`
(60_exceptions.md R331) where the decoder answers this. -/
inductive DecodeError where
  | illegalCommand (op : Byte)
  deriving DecidableEq, Repr

/-- The decoder reads the command byte whole (R117), by the table of R113. -/
def decode (op : Byte) : Except DecodeError Instr :=
  match op with
  | 0x00#8 => .ok .nop
  | 0x01#8 => .ok .init
  | 0x10#8 => .ok .crcClr
  | 0x11#8 => .ok .crcPush
  | 0x18#8 => .ok .validAddr
  | 0x19#8 => .ok .addrEq
  | 0x1A#8 => .ok .getAddr
  | 0x1B#8 => .ok .getCount
  | 0x1C#8 => .ok .isConn
  | 0x1D#8 => .ok .isConnSp
  | 0x20#8 => .ok .readSp
  | 0x21#8 => .ok .writeSp
  | 0x22#8 => .ok .getRes
  | 0x23#8 => .ok .setRes
  | 0x24#8 => .ok .setGres
  | 0x25#8 => .ok .readPower
  | 0x26#8 => .ok .getTh
  | 0x27#8 => .ok .getTl
  | 0x28#8 => .ok .setTh
  | 0x29#8 => .ok .setTl
  | 0x30#8 => .ok .calcTemp
  | 0x31#8 => .ok .getTemp
  | 0x32#8 => .ok .getTempIdx
  | 0x40#8 => .ok .reqTemps
  | 0x41#8 => .ok .reqTempAddr
  | 0x42#8 => .ok .reqTempIdx
  | 0x50#8 => .ok .asReset
  | 0x51#8 => .ok .alarmSearch
  | 0x52#8 => .ok .hasAlarmAddr
  | 0x53#8 => .ok .hasAlarmAny
  | 0x54#8 => .ok .processAlarms
  | _ => .error (.illegalCommand op)

/-- The code of a command (R113, the table's `match` column). -/
def encode : Instr → Byte
  | .nop => 0x00
  | .init => 0x01
  | .crcClr => 0x10
  | .crcPush => 0x11
  | .validAddr => 0x18
  | .addrEq => 0x19
  | .getAddr => 0x1A
  | .getCount => 0x1B
  | .isConn => 0x1C
  | .isConnSp => 0x1D
  | .readSp => 0x20
  | .writeSp => 0x21
  | .getRes => 0x22
  | .setRes => 0x23
  | .setGres => 0x24
  | .readPower => 0x25
  | .getTh => 0x26
  | .getTl => 0x27
  | .setTh => 0x28
  | .setTl => 0x29
  | .calcTemp => 0x30
  | .getTemp => 0x31
  | .getTempIdx => 0x32
  | .reqTemps => 0x40
  | .reqTempAddr => 0x41
  | .reqTempIdx => 0x42
  | .asReset => 0x50
  | .alarmSearch => 0x51
  | .hasAlarmAddr => 0x52
  | .hasAlarmAny => 0x53
  | .processAlarms => 0x54

/-- The bytes of a command word whose bits are `w`, first byte at the lowest place: every command has one byte (R110). -/
def commandByte (w : Nat) : Byte := BitVec.ofNat 8 w

/-- The command the decoder reads from an instruction of `nbits` bits whose bits are `w`. The whole instruction is
one byte (R110), so a word of another length or with a bit above the byte is no command. -/
def decodeTableWord (nbits w : Nat) : Option Instr :=
  if nbits = 8 ∧ w < 256 then
    match decode (commandByte w) with
    | .ok i => some i
    | .error _ => none
  else none

end Sys2Proof
end

