-- ==== Sys2Proof/Machine/Numbers.lean ====
section
/-! DEFINITION. The notation of 00_scope.md R16 and R17 on bytes, addresses and scratchpads, and the lookups in the
parameter tables. -/

namespace Sys2Proof.Machine

/-- `s8(b)` of R17: the byte read as two's complement. -/
def s8 (b : Byte) : Int := b.toInt

/-- `u8(v)` of R17: `v mod 256`. -/
def u8 (v : Int) : Byte := BitVec.ofInt 8 v

/-- `clamp(v, lo, hi)` of R17. -/
def clamp (v lo hi : Int) : Int := max lo (min hi v)

/-- The number of bits of a resolution (R8). -/
def resBits : Resolution → Nat
  | .r9 => 9
  | .r10 => 10
  | .r11 => 11
  | .r12 => 12

/-- The byte of a resolution in `GLOBAL_RES` and `RES_OUT` (R38, R46). -/
def resByte (r : Resolution) : Byte := BitVec.ofNat 8 (resBits r)

/-- The table entry of a resolution. -/
def perRes {α : Type} (t : PerRes α) : Resolution → α
  | .r9 => t.r9
  | .r10 => t.r10
  | .r11 => t.r11
  | .r12 => t.r12

/-- `clamp(req, 9, 12)` of a requested resolution (R184, R194). -/
def clampRes (req : Nat) : Resolution :=
  if req ≤ 9 then .r9 else if req = 10 then .r10 else if req = 11 then .r11 else .r12

/-- The larger of two resolutions (R151). -/
def maxRes (q r : Resolution) : Resolution := if resBits q < resBits r then r else q

/-- `max(maxres, r)` of R151, where `none` stands for the 0 that `maxres` starts with and for a failed read. -/
def maxResOpt : Option Resolution → Option Resolution → Option Resolution
  | none, r => r
  | some q, none => some q
  | some q, some r => some (maxRes q r)

/-- Bit `i` (0..63) of an address is bit `i mod 8` of byte `i div 8` (R53, R108). -/
def addrBit (a : Addr) (i : Nat) : Bool := ((a[i / 8]?).getD 0).getLsbD (i % 8)

/-- A byte with bit `i` replaced by `v`. -/
def setBit (b : Byte) (i : Nat) (v : Bool) : Byte :=
  if v then b ||| (1#8 <<< i) else b &&& ~~~(1#8 <<< i)

/-- An address with bit `i` replaced by `v` (R53, R108). -/
def setAddrBit (a : Addr) (i : Nat) (v : Bool) : Addr :=
  a.setIfInBounds (i / 8) (setBit ((a[i / 8]?).getD 0) (i % 8) v)

/-- `FAMILY(c)` (R11): the record of a family code, `none` for an unknown code. -/
def familyOf (p : Params) (c : Byte) : Option Family := p.family.lookup c

/-- `a[0] in FAMILY and FAMILY(a[0]).fixed_res` (R183, R184): the fixed resolution of an address's family, if any. -/
def fixedRes (p : Params) (a : Addr) : Option Resolution := (familyOf p a[0]).bind (·.fixedRes)

/-- `a[0] in FAMILY and FAMILY(a[0]).has_eeprom == 1` (R181). -/
def hasEeprom (p : Params) (a : Addr) : Bool := ((familyOf p a[0]).map (·.hasEeprom)).getD false

/-- `ResOf(c)` of R182: the resolution whose mask the configuration byte is, on the whole byte; `none` stands for
`RES_FAIL`. -/
def resOf (p : Params) (c : Byte) : Option Resolution :=
  [Resolution.r9, .r10, .r11, .r12].find? (fun r => perRes p.resMask r == c)

/-- The byte `RES_OUT` takes for the result of `GetResCore` (R192). -/
def resOutByte (p : Params) : Option Resolution → Byte
  | some r => resByte r
  | none => p.resFail

/-- `ClampT(v)` of R186, stored as a byte. -/
def clampT (v : Int) : Byte := u8 (clamp v (-55) 125)

/-- `ceil(t * scale)` of R262. -/
def scaleUp (t : Nat) (c : Scale) : Nat := (t * c.num + c.den - 1) / c.den

/-- `T_WAIT(scale)` of R262 at a resolution. -/
def tWait (p : Params) (r : Resolution) (c : Scale) : Nat := scaleUp (perRes p.tConv r) c

/-- `T_WAIT(scale_all)` of R262: `scale_all` is the largest scale of the table, and `T_WAIT` grows with the scale, so
this is the largest `T_WAIT` over the table. -/
def tWaitAll (p : Params) (r : Resolution) : Nat :=
  (p.family.map (fun e => tWait p r e.2.convScale)).foldl max 0

/-- `T_WAIT(scale_dev(a))` of R262. Only a valid address comes here, whose family is in the table; the time of an
unknown family is 0 (log 11). -/
def tWaitDev (p : Params) (r : Resolution) (a : Addr) : Nat :=
  ((familyOf p a[0]).map (fun f => tWait p r f.convScale)).getD 0

end Sys2Proof.Machine
end

