-- ==== Sys2Proof/Machine/Crc.lean ====
section
/-! DEFINITION. The CRC-8 validator and the checks built on it (40_crc_registry.md R140, R141, R143, R144). -/

namespace Sys2Proof.Machine

/-- `n` rounds of the loop of `crc8_step` (R140), on the running value `c` and the rest `b` of the byte. -/
def crcRounds (poly : Byte) : Nat → Byte → Byte → Byte
  | 0, c, _ => c
  | n + 1, c, b =>
    crcRounds poly n (if (c ^^^ b).getLsbD 0 then (c >>> 1) ^^^ poly else c >>> 1) (b >>> 1)

/-- `crc8_step(c, b)` (R140). -/
def crc8Step (poly c b : Byte) : Byte := crcRounds poly 8 c b

/-- `CRC8(b[0..n-1])` (R141). -/
def crc8 (poly : Byte) (bs : List Byte) : Byte := bs.foldl (crc8Step poly) 0x00

/-- `CRC8(a[0..6]) == a[7]`: the address CRC (R59, R143). -/
def addrCrcOk (p : Params) (a : Addr) : Bool := crc8 p.crcPolyR (a.toList.take 7) == a[7]

/-- `ValidAddr(a)` (R143). -/
def isValidAddr (p : Params) (a : Addr) : Bool := addrCrcOk p a && (familyOf p a[0]).isSome

/-- `PadCrcOk(sp)` (R144). -/
def padCrcOk (p : Params) (sp : Pad) : Bool := crc8 p.crcPolyR (sp.toList.take 8) == sp[8]

end Sys2Proof.Machine
end

