-- ==== Sys2Proof/Machine/Defaults.lean ====
section
/-! DEFINITION. The default values of the open parameters (00_scope.md R10 to R15), which State.reset carries. The
spec gives them; that they are those of a real sensor family is the spec's general knowledge (93 G1 to G6). -/

namespace Sys2Proof.Machine

/-- The wire bytes of R10. -/
def defaultWire : WireBytes where
  skipRom := 0xCC
  convertT := 0x44
  readScratch := 0xBE
  writeScratch := 0x4E
  copyScratch := 0x48
  readPower := 0xB4
  alarmSearch := 0xEC

/-- The scale 1 (R11). -/
def unitScale : Scale := ⟨1, 1⟩

/-- A standard family of the table of R11: 4 fractional bits, EEPROM, scale 1. -/
def standardFamily : Family where
  kind := .standard
  fixedRes := none
  fracBits := 4
  hasEeprom := true
  convScale := unitScale

/-- The legacy family of the table of R11. Its `frac_bits` is unused (R11), and 0 here. -/
def legacyFamily : Family where
  kind := .legacy
  fixedRes := some .r12
  fracBits := 0
  hasEeprom := true
  convScale := unitScale

/-- The default `FAMILY` table (R11). -/
def defaultFamily : List (Byte × Family) :=
  [(0x10, legacyFamily), (0x28, standardFamily), (0x22, standardFamily), (0x3B, standardFamily)]

/-- The default parameters: R10, R11, R12 with R140, R13, R14, R15. -/
def defaultParams : Params where
  wire := defaultWire
  family := defaultFamily
  crcPolyR := 0x8C
  resMask := ⟨0x1F, 0x3F, 0x5F, 0x7F⟩
  tConv := ⟨93750, 187500, 375000, 750000⟩
  tCopy := 10000
  discFp := BitVec.ofInt 32 (-16256)
  alarmDisc := BitVec.ofInt 8 (-127)
  resFail := 0

end Sys2Proof.Machine
end

