-- ==== Sys2Proof/Machine/State.lean ====
section
/-! DEFINITION. The state of the block as plain data (10_state.md), the reasons a step can stop, and the state right
after reset (70_reset_and_hazards.md R371). -/

namespace Sys2Proof.Machine

/-- The fields of `STATUS` (R43), bit 0 first. -/
structure Status where
  busy : Bool
  result : Bool
  illegal : Bool
  overrun : Bool
  addrCrcErr : Bool
  parasite : Bool
  pullupOn : Bool
  asExhausted : Bool
  deriving DecidableEq, Repr

/-- The fields of `CTRL` (R45). Bits 7:3 are reserved, read 0 and ignore writes (R45, R83). -/
structure Ctrl where
  waitEn : Bool
  pollEn : Bool
  copyEn : Bool
  deriving DecidableEq, Repr

/-- The conversion sequencer's states (R49, R260). -/
inductive Phase where
  | idle | requested | waiting | complete
  deriving DecidableEq, Repr

/-- The program points of the pseudocode at which a command works on the block's own registers and variables and
chooses what to do next, without a bus primitive. Machine/Sequencer.lean gives each its effect. An argument is a
value the pseudocode holds at that point. -/
inductive Act where
  /-- `x[STATUS].RESULT <- v` -/
  | result (v : Bool)
  /-- R151: what INIT does with the answer of `Bus.SearchNext` -/
  | initFound
  /-- R151: after the bit of `ReadPowerCore` -/
  | initPower
  /-- R151: after `GetResCore` -/
  | initRes
  /-- R152 -/
  | crcClear
  /-- R153, with the data byte -/
  | crcPush (b : Byte)
  /-- R154 -/
  | validAddr (a : Addr)
  /-- R155 -/
  | addrEq (a c : Addr)
  /-- R145: after `Bus.SearchNext`, with the number of advances still to make after this one -/
  | getAddrFound (k : Nat)
  /-- R156: after `GetAddrCore` -/
  | getAddrOut
  /-- R146 and R157: after `Bus.SearchNext` -/
  | countFound
  /-- R158: after `ReadSPCore` -/
  | isConn
  /-- R159: after `ReadSPCore` -/
  | isConnSp
  /-- R190: after `ReadSPCore` -/
  | readSpOut
  /-- R181, `WriteSPCore(a, sp)` -/
  | writeSp (a : Addr)
  /-- R183, `GetResCore(a)` -/
  | getRes (a : Addr)
  /-- R183: after its `ReadSPCore` -/
  | getResPad
  /-- R192: after `GetResCore` -/
  | getResOut
  /-- R184, `SetResCore(a, req)` with the clamped request -/
  | setRes (a : Addr) (r : Resolution)
  /-- R184: after its `ReadSPCore` -/
  | setResPad (a : Addr) (r : Resolution)
  /-- R184: after the verifying `GetResCore` -/
  | setResVerify (r : Resolution)
  /-- R193: after `SetResCore` -/
  | setResOut
  /-- R194: the write of `GLOBAL_RES` -/
  | gresStart (r : Resolution)
  /-- R194: after `Bus.SearchNext` -/
  | gresFound (r : Resolution)
  /-- R194: after `SetResCore` -/
  | gresStored
  /-- R195: after the bit of `ReadPowerCore` -/
  | readPowerOut
  /-- R196: after `ReadSPCore` -/
  | getThOut
  /-- R197: after `ReadSPCore` -/
  | getTlOut
  /-- R198: after `ReadSPCore`, with the clamped threshold -/
  | setThPad (a : Addr) (t : Byte)
  /-- R199: after `ReadSPCore`, with the clamped threshold -/
  | setTlPad (a : Addr) (t : Byte)
  /-- R240, R241, R242: the decoding of the scratchpad at hand -/
  | tempOut (a : Addr)
  /-- R242: after `GetAddrCore` -/
  | tempIdx
  /-- R261: a write of `PHASE` -/
  | setPhase (p : Phase)
  /-- R271: the address check -/
  | reqAddr (a : Addr)
  /-- R272: after `GetAddrCore` -/
  | reqIdx
  /-- R267, `ConvTail(T)` -/
  | convTail (t : Nat)
  /-- R267: after the pull-up decision -/
  | convWaiting (t : Nat)
  /-- R264, `WaitConv(T)` -/
  | waitConv (t : Nat)
  /-- R264: after one sample of the poll, begun at time `t0` -/
  | pollCheck (t0 t : Nat)
  /-- R264: the end of the conversion duration -/
  | waitEnd
  /-- R290, `AsResetCore()` -/
  | asReset
  /-- R291, `AlarmSearchCore()` -/
  | alarmStart
  /-- R291: after the presence answer -/
  | alarmPresence
  /-- R291: after both read slots of a bit position -/
  | alarmBit
  /-- R291: after the write slot of a bit position -/
  | alarmNext
  /-- R301: after `AlarmSearchCore` -/
  | alarmOut
  /-- R302: after `ReadSPCore` -/
  | alarmOfOut (a : Addr)
  /-- R303: after `AlarmSearchCore` -/
  | hasAnyOut
  /-- R304: after `AlarmSearchCore`, with the handler -/
  | procFound (h : Byte)
  deriving DecidableEq, Repr

/-- Which of the two read slots of a bit position a `Bus.ReadBit` answers (R291). Every other reader uses the first. -/
inductive BitSlot where
  | b | nb
  deriving DecidableEq, Repr

/-- One line of a command still to run: a bus primitive, a delay, a callback (R88 to R99), or a program point of the
block itself. -/
inductive Line where
  | reset
  | select (a : Addr)
  | writeByte (b : Byte)
  | readByte (i : Nat)
  | readBit (slot : BitSlot)
  | writeBit (v : Bool)
  | searchReset
  | searchNext
  | setPullup (on : Bool)
  | delay (us : Nat)
  /-- the rest of a `Delay` that has begun (R96), up to a time of the clock -/
  | waitUntil (deadline : Nat)
  | callback (h : Byte) (a : Addr)
  | act (x : Act)
  deriving DecidableEq, Repr

/-- The local variables of the pseudocode (R56). -/
structure Locals where
  /-- the scratchpad read or to be written: `sp` -/
  sp : Pad
  /-- the presence answer: `p` of R291 -/
  present : Bool
  /-- the last bit read: `v` of R185 and R264, `b` of R291 -/
  b : Bool
  /-- the complement slot: `nb` of R291 -/
  nb : Bool
  /-- `(f, a)` of a search, `(ok, a)` of R145, `(found, a)` of R291 -/
  found : Option Addr
  /-- the result of `SetResCore` (R184) -/
  ok : Bool
  /-- the result of `GetResCore` (R183): `none` for `RES_FAIL` -/
  res : Option Resolution
  /-- `ok` of R194 -/
  allOk : Bool
  /-- `n` of R146 and R151 -/
  n : Nat
  /-- `par` of R151 -/
  par : Bool
  /-- `maxres` of R151: `none` for 0 -/
  maxres : Option Resolution
  /-- `i` of R291 -/
  i : Nat
  /-- `last` of R291 -/
  last : Int
  /-- `done` of R291 -/
  done : Bool
  /-- `err` of R304 -/
  err : Bool
  deriving DecidableEq, Repr

/-- The local variables before a command has set any. No command reads one before it has set it. -/
def Locals.start : Locals where
  sp := Vector.replicate 9 0
  present := false
  b := false
  nb := false
  found := none
  ok := false
  res := none
  allOk := false
  n := 0
  par := false
  maxres := none
  i := 0
  last := -1
  done := false
  err := false

/-- The sequencer's micro-state (R56): the command being executed, its position (the lines still to run, the next
one first) and its local variables. -/
structure Micro where
  cmd : Option Instr
  todo : List Line
  loc : Locals
  deriving DecidableEq, Repr

/-- No command in progress: the micro-state "is discarded at command completion and at reset" (R56). -/
def Micro.none : Micro := ⟨Option.none, [], Locals.start⟩

/-- What a run shows of the bus, the delays and the callback port (R24): one event per primitive performed, with its
arguments and answer (R88, R96, R99). -/
inductive Event where
  | reset (p : Bool)
  | select (a : Addr)
  | writeByte (b : Byte)
  | readByte (b : Byte)
  | readBit (v : Bool)
  | writeBit (v : Bool)
  | searchReset
  | searchNext (found : Option Addr)
  | setPullup (on : Bool)
  | delay (us : Nat)
  | callback (h : Byte) (a : Addr)
  deriving DecidableEq, Repr

/-- The answers still to come of one kind: a script, then free values (`Config.free…`) applied to the number of the
draw. `drawn` counts the draws so far. -/
structure Answers (α : Type) where
  script : List α
  drawn : Nat
  deriving DecidableEq, Repr

/-- What the host or the reset input does in one step of the model (R23). `pass` leaves the step to the block. -/
inductive Turn where
  | pass
  | reset
  | read (off : BitVec 6)
  | write (off : BitVec 6) (v : Byte)
  deriving DecidableEq, Repr

/-- What the world outside the block will do: the bus adapter's and the clock's answers and the host's accesses.
It is no state of the block (R30, R57). -/
structure Env where
  turns : List Turn
  presence : Answers Bool
  bytes : Answers Byte
  bits : Answers Bool
  found : Answers (Option Addr)
  ticks : Answers Nat
  deriving DecidableEq, Repr

/-- The state of the block (R30): registers and hidden state of 10_state.md; and, from `params` on, the model's own
fields (INVENTORY.md). -/
structure State where
  /-- `LAST_CMD` (R42) -/
  lastCmd : Byte
  /-- `STATUS` (R43) -/
  status : Status
  /-- `CTRL` (R45) -/
  ctrl : Ctrl
  /-- `ARG` (R32) -/
  arg : Byte
  /-- `HANDLER_ID` (R41) -/
  handlerId : Byte
  /-- `GLOBAL_RES` (R46) -/
  globalRes : Resolution
  /-- `DEVICE_COUNT` (R48) -/
  deviceCount : Byte
  /-- `RES_OUT` (R38) -/
  resOut : Byte
  /-- `ALARM_T` (R39) -/
  alarmT : Byte
  /-- `CRC_ACC` (R40) -/
  crcAcc : Byte
  /-- `PHASE` (R49) -/
  phase : Phase
  /-- `TEMP_FP` (R37) -/
  tempFp : BitVec 32
  /-- `ADDR_IN` (R33) -/
  addrIn : Addr
  /-- `ADDR_CMP` (R34) -/
  addrCmp : Addr
  /-- `ADDR_OUT` (R35) -/
  addrOut : Addr
  /-- `SP_BUF` (R36) -/
  spBuf : Pad
  /-- `AS_ADDR`, hidden (R53) -/
  asAddr : Addr
  /-- `AS_JUNCTION`, hidden, an integer in -1..63 (R54) -/
  asJunction : Int
  /-- the sequencer's micro-state, hidden (R56) -/
  seq : Micro
  /-- the parameters of the model (R10 to R15, log 1) -/
  params : Params
  /-- what the host, the reset input, the bus adapter and the clock will do (log 2, log 3) -/
  env : Env
  /-- the run's history of events, oldest first (R24, log 13) -/
  trace : List Event
  /-- the bytes the host's reads returned, oldest first (R81, log 13) -/
  reads : List (BitVec 6 × Byte)
  /-- the clock agent's time in microseconds (R96, log 9) -/
  clock : Nat
  /-- how many unspecified addresses were drawn (R156, log 7) -/
  addrDraws : Nat
  /-- how many steps of the block the step that takes a command request runs, and how many beyond the first any other
  step of the model runs (log 4) -/
  quantum : Nat
  deriving DecidableEq, Repr

/-- Why the machine stops with a fault. No constructor: "The block raises no trap, exception or fault during a
command" (R330), no host access faults (R80), and `IllegalCommand` is a next state (R331). Safe. -/
inductive Fault where
  deriving DecidableEq, Repr

/-- Why the machine refuses. -/
inductive Refusal where
  /-- Raised by an arm of `exec` for an instruction the model gives no meaning yet. No arm raises it. Safe. -/
  | notModelled (mnemonic : String)
  deriving DecidableEq, Repr

/-- `STATUS` after reset: 0x20 (R371). -/
def Status.reset : Status where
  busy := false
  result := false
  illegal := false
  overrun := false
  addrCrcErr := false
  parasite := true
  pullupOn := false
  asExhausted := false

/-- A stream of answers with no script: every answer is free. -/
def Answers.free {α : Type} : Answers α := ⟨[], 0⟩

/-- The surroundings State.reset carries: no host access waits and no answer is fixed (DESIGN CHOICE, log 2 and 3). -/
def Env.reset : Env where
  turns := []
  presence := .free
  bytes := .free
  bits := .free
  found := .free
  ticks := .free

/-- The state right after reset: the values of R371. The fields from `params` on are the model's own (log 1 to 4, 7,
9 and 13). -/
def State.reset : State where
  lastCmd := 0x00
  status := Status.reset
  ctrl := ⟨true, true, true⟩
  arg := 0x00
  handlerId := 0x00
  globalRes := .r12
  deviceCount := 0
  resOut := 0
  alarmT := 0x00
  crcAcc := 0x00
  phase := .idle
  tempFp := 0
  addrIn := Vector.replicate 8 0
  addrCmp := Vector.replicate 8 0
  addrOut := Vector.replicate 8 0
  spBuf := Vector.replicate 9 0
  asAddr := Vector.replicate 8 0
  asJunction := -1
  seq := Micro.none
  params := defaultParams
  env := Env.reset
  trace := []
  reads := []
  clock := 0
  addrDraws := 0
  quantum := 4095

end Sys2Proof.Machine
end

