-- ==== Sys2Proof/Machine/Flags.lean ====
section
/-! DEFINITION. The control and status registers as the host sees them (10_state.md R43, R45, R49): the block has no
arithmetic flags, "its only condition bits are the `STATUS` fields" (R50). -/

namespace Sys2Proof.Machine

/-- A byte with only bit `n`, when `v` holds. -/
def flagBit (v : Bool) (n : Nat) : Byte := if v then 1#8 <<< n else 0

/-- `STATUS` as a byte (R43). -/
def statusByte (t : Status) : Byte :=
  flagBit t.busy 0 ||| flagBit t.result 1 ||| flagBit t.illegal 2 ||| flagBit t.overrun 3
    ||| flagBit t.addrCrcErr 4 ||| flagBit t.parasite 5 ||| flagBit t.pullupOn 6 ||| flagBit t.asExhausted 7

/-- `CTRL` as a byte: bits 7:3 read 0 (R45). -/
def ctrlByte (c : Ctrl) : Byte := flagBit c.waitEn 0 ||| flagBit c.pollEn 1 ||| flagBit c.copyEn 2

/-- What a write of `v` to `CTRL` leaves: bits 7:3 ignore writes (R45). -/
def ctrlOfByte (v : Byte) : Ctrl := ⟨v.getLsbD 0, v.getLsbD 1, v.getLsbD 2⟩

/-- `PHASE` as a byte (R49). -/
def phaseByte : Phase → Byte
  | .idle => 0
  | .requested => 1
  | .waiting => 2
  | .complete => 3

/-- `x[STATUS].RESULT <- v` (R44). -/
def setResult (v : Bool) (s : State) : State := { s with status.result := v }

/-- `x[STATUS].ADDR_CRC_ERR <- v` (44_alarm.md). -/
def setCrcErr (v : Bool) (s : State) : State := { s with status.addrCrcErr := v }

/-- `x[STATUS].AS_EXHAUSTED <- v` (R54). -/
def setExhausted (v : Bool) (s : State) : State := { s with status.asExhausted := v }

/-- `x[STATUS].PARASITE <- v` (R47: INIT alone writes it). -/
def setParasite (v : Bool) (s : State) : State := { s with status.parasite := v }

end Sys2Proof.Machine
end

