-- ==== Sys2Proof/Machine/Operands.lean ====
section
/-! DEFINITION. How commands read their operands (30_encoding.md R114): every operand is a register, read once at the
start of the command. -/

namespace Sys2Proof.Machine

/-- `zext_8(x[ARG])` (R114): a device index of GET_ADDR, GET_TEMP_IDX, REQ_TEMP_IDX. -/
def argIndex (s : State) : Nat := s.arg.toNat

/-- `clamp(zext_8(x[ARG]), 9, 12)` (R114, R184, R194): the resolution SET_RES and SET_GRES request. -/
def argRes (s : State) : Resolution := clampRes s.arg.toNat

/-- `ClampT(s8(x[ARG]))` (R114, R186, R198): the threshold SET_TH and SET_TL store. -/
def argThreshold (s : State) : Byte := clampT (s8 s.arg)

/-- `x[ARG]` as the data byte of CRC_PUSH (R114). -/
def argByte (s : State) : Byte := s.arg

/-- The local variables of a command whose scratchpad operand is `SP_BUF` (R114: WRITE_SP and CALC_TEMP). -/
def localsWithPad (s : State) : Locals := { Locals.start with sp := s.spBuf }

end Sys2Proof.Machine
end

