-- ==== Sys2Proof/Machine/Ops.lean ====
section
/-! DEFINITION. The named operations of the block: drawing answers, the bus primitives (20_memory.md R88 to R99), the
sequencer's bookkeeping (30_encoding.md R111), taking the one exception and acknowledging it (60_exceptions.md R331,
R337), reset (70_reset_and_hazards.md R370), and reading a register of the host map (20_memory.md R82). -/

namespace Sys2Proof.Machine

/-! ### Answers -/

/-- The next answer of a stream. -/
def nextAnswer {α : Type} (free : Nat → α) (q : Answers α) : α := q.script.headD (free q.drawn)

/-- The stream after one draw. -/
def restAnswers {α : Type} (q : Answers α) : Answers α := ⟨q.script.tail, q.drawn + 1⟩

/-- The answer of the draw number `k` from now on, the next draw being number 0. -/
def peekAnswer {α : Type} (free : Nat → α) (q : Answers α) (k : Nat) : α := (q.script[k]?).getD (free (q.drawn + k))

/-- The stream after `n` draws. -/
def skipAnswers {α : Type} (n : Nat) (q : Answers α) : Answers α := ⟨q.script.drop n, q.drawn + n⟩

/-! ### Bus primitives -/

/-- Records an event of the run (R24, R88). -/
def emit (e : Event) (s : State) : State := { s with trace := s.trace ++ [e] }

/-- `Bus.SetPullup(on)` (R95). -/
def busSetPullup (on : Bool) (s : State) : State := emit (.setPullup on) { s with status.pullupOn := on }

/-- The presence answer the next `Bus.Reset` gets (R89). -/
def presenceAnswer (s : State) : Bool := nextAnswer Config.freePresence s.env.presence

/-- The byte the next `Bus.ReadByte` gets (R92). -/
def byteAnswer (s : State) : Byte := nextAnswer Config.freeByte s.env.bytes

/-- The bit the next `Bus.ReadBit` gets (R93). -/
def bitAnswer (s : State) : Bool := nextAnswer Config.freeBit s.env.bits

/-- What the next `Bus.SearchNext` answers (R94): `none` for `f = 0`, whose address no rule uses. -/
def foundAnswer (s : State) : Option Addr := nextAnswer Config.freeFound s.env.found

/-- How far the clock advances at the next reading of it, and beyond what the next `Delay` asks (R96). -/
def tickAnswer (s : State) : Nat := nextAnswer Config.freeTick s.env.ticks

/-- `Bus.Reset() -> p` (R89). -/
def busReset (s : State) : State :=
  emit (.reset (presenceAnswer s))
    { s with seq.loc.present := presenceAnswer s, env.presence := restAnswers s.env.presence }

/-- `Bus.Select(a)` (R90). -/
def busSelect (a : Addr) (s : State) : State := emit (.select a) s

/-- `Bus.WriteByte(b)` (R91). -/
def busWriteByte (b : Byte) (s : State) : State := emit (.writeByte b) s

/-- `sp[i] <- Bus.ReadByte()` (R92, R180). -/
def busReadByte (i : Nat) (s : State) : State :=
  emit (.readByte (byteAnswer s))
    { s with seq.loc.sp := s.seq.loc.sp.setIfInBounds i (byteAnswer s), env.bytes := restAnswers s.env.bytes }

/-- The local variables after a bit slot has answered `v`. -/
def storeBit (slot : BitSlot) (v : Bool) (l : Locals) : Locals :=
  match slot with
  | .b => { l with b := v }
  | .nb => { l with nb := v }

/-- `Bus.ReadBit() -> v` (R93). -/
def busReadBit (slot : BitSlot) (s : State) : State :=
  emit (.readBit (bitAnswer s))
    { s with seq.loc := storeBit slot (bitAnswer s) s.seq.loc, env.bits := restAnswers s.env.bits }

/-- `Bus.WriteBit(v)` (R93). -/
def busWriteBit (v : Bool) (s : State) : State := emit (.writeBit v) s

/-- `Bus.SearchReset()` (R94). -/
def busSearchReset (s : State) : State := emit .searchReset s

/-- `(f, a) <- Bus.SearchNext()` (R94). -/
def busSearchNext (s : State) : State :=
  emit (.searchNext (foundAnswer s))
    { s with seq.loc.found := foundAnswer s, env.found := restAnswers s.env.found }

/-- Puts lines in front of what is still to run. -/
def push (ls : List Line) (s : State) : State := { s with seq.todo := ls ++ s.seq.todo }

/-- The start of `Delay(us)` (R96): recorded as an event; the block then waits, a line of its own, so that a reset can
cut a delay short (R373: "between or during"; log 10). -/
def startDelay (us : Nat) (s : State) : State := emit (.delay us) (push [.waitUntil (s.clock + us)] s)

/-- The end of a `Delay` (R96): the clock has reached `deadline`, and is whatever more its stream says. -/
def endDelay (deadline : Nat) (s : State) : State :=
  { s with clock := max s.clock deadline + tickAnswer s, env.ticks := restAnswers s.env.ticks }

/-- `Now() -> t` (R96): the clock after the advance the stream gives, so that it is monotone (R98(b)); the answer is
the new `clock`. -/
def readClock (s : State) : State :=
  { s with clock := s.clock + tickAnswer s, env.ticks := restAnswers s.env.ticks }

/-- `Emit Callback(h, a)` (R99). No bus primitive. -/
def emitCallback (h : Byte) (a : Addr) (s : State) : State := emit (.callback h a) s

/-! ### The sequencer -/

/-- `x[STATUS].BUSY <- 1` and the start of a command's rule (R111, R56). -/
def beginCommand (i : Instr) (l : Locals) (code : List Line) (s : State) : State :=
  { s with status.busy := true, seq := ⟨some i, code, l⟩ }

/-- `x[STATUS].BUSY <- 0` at the end of the last line; the micro-state is discarded (R111, R56). -/
def finishCommand (s : State) : State := { s with status.busy := false, seq := Micro.none }

/-! ### The exception, and reset -/

/-- `raise IllegalCommand(op)` (R331): "no bus primitive, no other register write, BUSY stays 0". `LAST_CMD` already
holds `op`. -/
def illegalCommand (s : State) : State := { s with status.illegal := true, status.result := false }

/-- A host write of `v` to `STATUS` (R43), the only acknowledgement of the exception (R337). -/
def acknowledge (v : Byte) (s : State) : State :=
  { s with
    status.illegal := s.status.illegal && !v.getLsbD 2
    status.overrun := s.status.overrun && !v.getLsbD 3 }

/-- An overrun: the write is discarded and `OVERRUN` is set (R86, R332). -/
def overrun (s : State) : State := { s with status.overrun := true }

/-- The reset input (R370, R373): every register and the hidden state at the values of R371, the micro-state
discarded, the pull-up level 0 without an event, no bus primitive. What is no state of the block stays (log 12). -/
def resetBlock (s : State) : State :=
  { State.reset with
    params := s.params, env := s.env, trace := s.trace, reads := s.reads, clock := s.clock, addrDraws := s.addrDraws,
    quantum := s.quantum }

/-! ### The host register map -/

/-- The registers of the host map (R82), with the byte of a register that has more than one. -/
inductive HostReg where
  | cmd | status | ctrl | arg | handlerId | globalRes | deviceCount | resOut | alarmT | crcAcc | phase
  | tempFp (i : Nat) | addrIn (i : Nat) | addrCmp (i : Nat) | addrOut (i : Nat) | spBuf (i : Nat)
  | reserved
  deriving DecidableEq, Repr

/-- The map of R82: what stands at an offset. -/
def hostReg (off : BitVec 6) : HostReg :=
  match off.toNat with
  | 0x00 => .cmd
  | 0x01 => .status
  | 0x02 => .ctrl
  | 0x03 => .arg
  | 0x04 => .handlerId
  | 0x05 => .globalRes
  | 0x06 => .deviceCount
  | 0x07 => .resOut
  | 0x08 => .alarmT
  | 0x09 => .crcAcc
  | 0x0A => .phase
  | 0x0B => .reserved
  | n =>
    if n < 0x10 then .tempFp (n - 0x0C)
    else if n < 0x18 then .addrIn (n - 0x10)
    else if n < 0x20 then .addrCmp (n - 0x18)
    else if n < 0x28 then .addrOut (n - 0x20)
    else if n < 0x31 then .spBuf (n - 0x28)
    else .reserved

/-- The current value of a register of the map, byte by byte (R82 to R84): a multi-byte register is little-endian by
offset, an array is stored index by index, a reserved offset is 0x00. -/
def regByte (s : State) : HostReg → Byte
  | .cmd => s.lastCmd
  | .status => statusByte s.status
  | .ctrl => ctrlByte s.ctrl
  | .arg => s.arg
  | .handlerId => s.handlerId
  | .globalRes => resByte s.globalRes
  | .deviceCount => s.deviceCount
  | .resOut => s.resOut
  | .alarmT => s.alarmT
  | .crcAcc => s.crcAcc
  | .phase => phaseByte s.phase
  | .tempFp i => s.tempFp.extractLsb' (8 * i) 8
  | .addrIn i => (s.addrIn[i]?).getD 0
  | .addrCmp i => (s.addrCmp[i]?).getD 0
  | .addrOut i => (s.addrOut[i]?).getD 0
  | .spBuf i => (s.spBuf[i]?).getD 0
  | .reserved => 0x00

/-- Whether a command may write the register, so that a read while BUSY answers any value (R87). -/
def isResultReg : HostReg → Bool
  | .addrOut _ | .spBuf _ | .tempFp _ | .resOut | .alarmT | .crcAcc | .deviceCount | .globalRes => true
  | .cmd | .status | .ctrl | .arg | .handlerId | .phase | .addrIn _ | .addrCmp _ | .reserved => false

/-- The current byte at a host offset (R81, R82). -/
def hostByte (s : State) (off : BitVec 6) : Byte := regByte s (hostReg off)

end Sys2Proof.Machine
end

