-- ==== Sys2Proof/Machine/Routines.lean ====
section
/-! DEFINITION. The routines commands share, as the lines they perform: reading and writing a scratchpad, reading the
power supply, walking the search, starting a conversion (40_crc_registry.md R145, R146; 41_scratchpad.md R180, R181,
R183 to R185; 43_conversion.md R262 to R267). A routine's result is left in the sequencer's local variables. -/

namespace Sys2Proof.Machine

/-! ### Scratchpad and power -/

/-- `ReadSPCore(a)` (R180): the pad read is left in `loc.sp`. -/
def readPadLines (p : Params) (a : Addr) : List Line :=
  [.reset, .select a, .writeByte p.wire.readScratch,
   .readByte 0, .readByte 1, .readByte 2, .readByte 3, .readByte 4, .readByte 5, .readByte 6, .readByte 7, .readByte 8]

/-- The transfer of the three writable bytes (R181, R102). -/
def writeBytesLines (p : Params) (a : Addr) (sp : Pad) : List Line :=
  [.reset, .select a, .writeByte p.wire.writeScratch, .writeByte sp[2], .writeByte sp[3], .writeByte sp[4]]

/-- The parasite-power part of the EEPROM copy (R181). -/
def copyPowerLines (p : Params) (parasite : Bool) : List Line :=
  if parasite then [.setPullup true, .delay p.tCopy, .setPullup false] else []

/-- The EEPROM copy (R181). -/
def copyLines (p : Params) (a : Addr) (parasite : Bool) : List Line :=
  [.reset, .select a, .writeByte p.wire.copyScratch] ++ copyPowerLines p parasite

/-- The copy's condition (R181): enabled, a known family, with EEPROM. -/
def wantsCopy (s : State) (a : Addr) : Bool := s.ctrl.copyEn && hasEeprom s.params a

/-- `WriteSPCore(a, sp)` (R181) in the state at its start: `CTRL` and `PARASITE` do not change while it runs (log 18). -/
def writePadLines (s : State) (a : Addr) (sp : Pad) : List Line :=
  writeBytesLines s.params a sp ++ if wantsCopy s a then copyLines s.params a s.status.parasite else []

/-- `ReadPowerCore(a)` (R185): the bit is left in `loc.b`; 0 is parasite power. -/
def readPowerLines (p : Params) (a : Addr) : List Line :=
  [.reset, .select a, .writeByte p.wire.readPower, .readBit .b]

/-- The start of `WriteSPCore(a, loc.sp)` (R181). -/
def actWriteSp (a : Addr) (s : State) : State := push (writePadLines s a s.seq.loc.sp) s

/-! ### Resolution -/

/-- `GetResCore(a)` (R183): a fixed resolution needs no bus primitive. -/
def actGetRes (a : Addr) (s : State) : State :=
  match fixedRes s.params a with
  | some r => { s with seq.loc.res := some r }
  | none => push (readPadLines s.params a ++ [.act .getResPad]) s

/-- The result of `GetResCore` from a scratchpad read (R183). -/
def resOfPad (p : Params) (sp : Pad) : Option Resolution := if padCrcOk p sp then resOf p sp[4] else none

/-- R183 after the read. -/
def actGetResPad (s : State) : State := { s with seq.loc.res := resOfPad s.params s.seq.loc.sp }

/-- `SetResCore(a, req)` (R184) with the clamped request `r`. -/
def actSetRes (a : Addr) (r : Resolution) (s : State) : State :=
  match fixedRes s.params a with
  | some _ => { s with seq.loc.ok := true }
  | none => push (readPadLines s.params a ++ [.act (.setResPad a r)]) s

/-- R184 after the first read: the thresholds are kept as read. -/
def actSetResPad (a : Addr) (r : Resolution) (s : State) : State :=
  if padCrcOk s.params s.seq.loc.sp then
    push [.act (.writeSp a), .act (.getRes a), .act (.setResVerify r)]
      { s with seq.loc.sp := s.seq.loc.sp.set 4 (perRes s.params.resMask r) }
  else { s with seq.loc.ok := false }

/-- R184, "verify by re-reading". -/
def actSetResVerify (r : Resolution) (s : State) : State :=
  { s with seq.loc.ok := s.seq.loc.res == some r }

/-! ### The search -/

/-- `GetAddrCore(idx)` (R145): the address is left in `loc.found`, `none` where the lookup fails. -/
def getAddrLines (idx : Nat) : List Line := [.searchReset, .searchNext, .act (.getAddrFound idx)]

/-- R145 after `Bus.SearchNext`, with `k` advances still to make. -/
def actGetAddrFound (k : Nat) (s : State) : State :=
  match s.seq.loc.found, k with
  | none, _ => s
  | some a, 0 => if isValidAddr s.params a then s else { s with seq.loc.found := none }
  | some a, k + 1 =>
    if isValidAddr s.params a then push [.searchNext, .act (.getAddrFound k)] s
    else { s with seq.loc.found := none }

/-- `min(n + 1, 255)` (R146, R151). -/
def countUp (n : Nat) : Nat := min (n + 1) 255

/-! ### Conversion -/

/-- The start of a targeted conversion and its tail (R271, R272). -/
def convertOneLines (s : State) (a : Addr) : List Line :=
  [.act (.setPhase .requested), .reset, .select a, .writeByte s.params.wire.convertT,
   .act (.convTail (tWaitDev s.params s.globalRes a)), .act (.result true)]

/-- The start of a broadcast conversion and its tail (R270). -/
def convertAllLines (s : State) : List Line :=
  [.act (.setPhase .requested), .reset, .writeByte s.params.wire.skipRom, .writeByte s.params.wire.convertT,
   .act (.convTail (tWaitAll s.params s.globalRes)), .act (.result true)]

/-- A write of `PHASE` (R261). -/
def actSetPhase (p : Phase) (s : State) : State := { s with phase := p }

/-- `ConvTail(T)` up to the pull-up decision (R263, R267). -/
def actConvTail (t : Nat) (s : State) : State :=
  push ((if s.status.parasite then [.setPullup true] else []) ++ [.act (.convWaiting t)]) s

/-- `ConvTail(T)` from there (R266, R267). -/
def actConvWaiting (t : Nat) (s : State) : State :=
  if s.ctrl.waitEn then
    push [.act (.waitConv t), .act (.setPhase .complete), .act (.setPhase .idle)] { s with phase := .waiting }
  else push [.act (.setPhase .idle)] { s with phase := .waiting }

/-- `WaitConv(T)` (R264): the choice between polling and the blocking delay, and the poll's start. -/
def actWaitConv (t : Nat) (s : State) : State :=
  if s.ctrl.pollEn && !s.status.parasite then
    push [.readBit .b, .act (.pollCheck (readClock s).clock t), .act .waitEnd] (readClock s)
  else push [.delay t, .act .waitEnd] s

/-- R264 and R265 after a sample: done, or bound exceeded, or another sample. -/
def actPollCheck (t0 t : Nat) (s : State) : State :=
  if s.seq.loc.b then s
  else if t < (readClock s).clock - t0 then readClock s
  else push [.readBit .b, .act (.pollCheck t0 t)] (readClock s)

/-- R264, "end of the conversion duration". -/
def actWaitEnd (s : State) : State := if s.status.pullupOn then push [.setPullup false] s else s

end Sys2Proof.Machine
end

