-- ==== Sys2Proof/Machine/AlarmSearch.lean ====
section
/-! DEFINITION. The alarm-search state machine (44_alarm.md R290, R291). -/

namespace Sys2Proof.Machine

/-- `AsResetCore()` (R290). -/
def actAsReset (s : State) : State :=
  setExhausted false { s with asAddr := Vector.replicate 8 0, asJunction := -1 }

/-- What the search decides at one bit position (R291): the branch taken, and the new junction, `last` and `done`. -/
structure Branch where
  bit : Bool
  junction : Int
  last : Int
  done : Bool
  deriving DecidableEq, Repr

/-- The decision of R291 at bit `i`, from the two slots, the cursor's junction and previous bit, and the loop's
variables. Where the slots differ, `b` "is the only value present". -/
def chooseBranch (i : Nat) (b nb : Bool) (junction : Int) (prevBit : Bool) (last : Int) (done : Bool) : Branch :=
  if b = false ∧ nb = false then
    if (i : Int) = junction then ⟨true, last, last, done⟩
    else if (i : Int) < junction then
      if prevBit then ⟨true, junction, last, done⟩ else ⟨false, junction, i, false⟩
    else ⟨false, i, last, false⟩
  else ⟨b, junction, last, done⟩

/-- The end of an unsuccessful step: the cursor is exhausted (R291). -/
def alarmNone (s : State) : State := setExhausted true { s with seq.loc.found := none }

/-- `AlarmSearchCore()` up to the bus reset (R291): "no wraparound". -/
def actAlarmStart (s : State) : State :=
  if s.status.asExhausted then { s with seq.loc.found := none } else push [.reset, .act .alarmPresence] s

/-- The two read slots of a bit position and what follows (R291). -/
def alarmSlots : List Line := [.readBit .b, .readBit .nb, .act .alarmBit]

/-- R291 after the presence answer. -/
def actAlarmPresence (s : State) : State :=
  if s.seq.loc.present then
    push (.writeByte s.params.wire.alarmSearch :: alarmSlots)
      { s with seq.loc.last := -1, seq.loc.done := true, seq.loc.i := 0 }
  else alarmNone s

/-- The decision of R291 in the present state. -/
def branchHere (s : State) : Branch :=
  chooseBranch s.seq.loc.i s.seq.loc.b s.seq.loc.nb s.asJunction (addrBit s.asAddr s.seq.loc.i)
    s.seq.loc.last s.seq.loc.done

/-- R291 after both read slots: "nobody answered", or the branch is taken and written. -/
def actAlarmBit (s : State) : State :=
  if s.seq.loc.b && s.seq.loc.nb then alarmNone s
  else
    push [.writeBit (branchHere s).bit, .act .alarmNext]
      { s with
        asAddr := setAddrBit s.asAddr s.seq.loc.i (branchHere s).bit
        asJunction := (branchHere s).junction
        seq.loc.last := (branchHere s).last
        seq.loc.done := (branchHere s).done }

/-- R291 after the write slot: the next bit position, or the end with the address found. -/
def actAlarmNext (s : State) : State :=
  if s.seq.loc.i < 63 then push alarmSlots { s with seq.loc.i := s.seq.loc.i + 1 }
  else
    setExhausted (s.status.asExhausted || s.seq.loc.done) { s with seq.loc.found := some s.asAddr }

/-- R301 and R303: what a found address leaves in `ADDR_OUT`, `ADDR_CRC_ERR` and `RESULT`. -/
def alarmReport (s : State) : State :=
  match s.seq.loc.found with
  | some a => setResult true (setCrcErr (!addrCrcOk s.params a) { s with addrOut := a })
  | none => setResult false (setCrcErr false s)

end Sys2Proof.Machine
end

