-- ==== Sys2Proof/Machine/Decoder.lean ====
section
/-! DEFINITION. The temperature decoder (42_decoder.md R230 to R232) and the alarm comparison (44_alarm.md R293): pure
functions of the family code and the scratchpad (R233(b)). -/

namespace Sys2Proof.Machine

/-- The raw temperature register `sp[1]:sp[0]` (R85). -/
def rawTemp (sp : Pad) : BitVec 16 := sp[1] ++ sp[0]

/-- `DecodeLegacy(sp)` (R231). -/
def decodeLegacy (sp : Pad) : Int :=
  let countRemain : Int := sp[6].toNat
  let countPerC : Int := sp[7].toNat
  if countPerC = 0 then (rawTemp sp).toInt * 64
  else ((rawTemp sp) &&& 0xFFFE#16).toInt * 64 - 32 + ((countPerC - countRemain) * 128).tdiv countPerC

/-- The raw register with the `12 - r` low bits cleared (R232). -/
def maskedRaw (sp : Pad) (r : Resolution) : BitVec 16 := rawTemp sp &&& (0xFFFF#16 <<< (12 - resBits r))

/-- `DecodeStandard(sp, fb)` (R232); `none` of `resOf` is the configuration byte that is a protocol violation. -/
def decodeStandard (p : Params) (sp : Pad) (fb : Fin 8) : Int :=
  match resOf p sp[4] with
  | none => p.discFp.toInt
  | some r => (maskedRaw sp r).toInt * 2 ^ (7 - fb.val)

/-- The all-0xFF test of R230. -/
def allOnes (sp : Pad) : Bool := sp.toList.all (· == 0xFF)

/-- `Decode(a, sp)` (R230), its three tests in the rule's order. -/
def decodeTemp (p : Params) (a : Addr) (sp : Pad) : Int :=
  if allOnes sp then p.discFp.toInt
  else if padCrcOk p sp = false then p.discFp.toInt
  else
    match familyOf p a[0] with
    | none => p.discFp.toInt
    | some f =>
      match f.kind with
      | .legacy => decodeLegacy sp
      | .standard => decodeStandard p sp f.fracBits

/-- `AlarmOf(a, sp)` (R293): strict comparisons of the whole degrees, on integers. -/
def alarmOf (p : Params) (a : Addr) (sp : Pad) : Bool :=
  if padCrcOk p sp = false then false
  else if decodeTemp p a sp = p.discFp.toInt then false
  else decide (s8 sp[2] < (decodeTemp p a sp).fdiv 128 ∨ (decodeTemp p a sp).fdiv 128 < s8 sp[3])

end Sys2Proof.Machine
end

