-- ==== Sys2Proof/Machine/Outcomes.lean ====
section
/-! DEFINITION. What each command's own program points do with a routine's result: the register writes and the choices
of the pseudocode of R151 to R159, R190 to R199, R240 to R242, R271, R272 and R300 to R304. -/

namespace Sys2Proof.Machine

/-! ### Control, CRC and registry -/

/-- The register writes at the end of INIT (R151): `GLOBAL_RES` is unchanged when no device reported a resolution. -/
def initWrites (s : State) : State :=
  setResult true (setParasite s.seq.loc.par
    { s with deviceCount := BitVec.ofNat 8 s.seq.loc.n, globalRes := s.seq.loc.maxres.getD s.globalRes })

/-- The lines INIT performs for a valid address (R151), then the next search answer. -/
def initDeviceLines (p : Params) (a : Addr) : List Line :=
  readPowerLines p a ++ [.act .initPower, .act (.getRes a), .act .initRes, .searchNext, .act .initFound]

/-- R151 after `Bus.SearchNext`. -/
def actInitFound (s : State) : State :=
  match s.seq.loc.found with
  | none => initWrites s
  | some a =>
    if isValidAddr s.params a then push (initDeviceLines s.params a) s
    else push [.searchNext, .act .initFound] s

/-- R151 after `ReadPowerCore`: a bit of 0 is parasite power (R185). -/
def actInitPower (s : State) : State := { s with seq.loc.par := s.seq.loc.par || !s.seq.loc.b }

/-- R151 after `GetResCore`. -/
def actInitRes (s : State) : State :=
  { s with seq.loc.maxres := maxResOpt s.seq.loc.maxres s.seq.loc.res, seq.loc.n := countUp s.seq.loc.n }

/-- R152. -/
def actCrcClear (s : State) : State := setResult true { s with crcAcc := 0x00 }

/-- R153. -/
def actCrcPush (b : Byte) (s : State) : State :=
  setResult (crc8Step s.params.crcPolyR s.crcAcc b == 0x00) { s with crcAcc := crc8Step s.params.crcPolyR s.crcAcc b }

/-- R154. -/
def actValidAddr (a : Addr) (s : State) : State := setResult (isValidAddr s.params a) s

/-- The byte-wise comparison of R155. -/
def addrEqual (a c : Addr) : Bool := (List.zipWith (· == ·) a.toList c.toList).all id

/-- R155. -/
def actAddrEq (a c : Addr) (s : State) : State := setResult (addrEqual a c) s

/-- R156 after `GetAddrCore`: on failure `ADDR_OUT` takes a free value, `any()`. -/
def actGetAddrOut (s : State) : State :=
  match s.seq.loc.found with
  | some a => setResult true { s with addrOut := a }
  | none => setResult false { s with addrOut := Config.freeAddr s.addrDraws, addrDraws := s.addrDraws + 1 }

/-- R146 after `Bus.SearchNext`, and the writes of R157 at its end. -/
def actCountFound (s : State) : State :=
  match s.seq.loc.found with
  | none => setResult true { s with deviceCount := BitVec.ofNat 8 s.seq.loc.n }
  | some a =>
    push [.searchNext, .act .countFound]
      (if isValidAddr s.params a then { s with seq.loc.n := countUp s.seq.loc.n } else s)

/-- R158 after `ReadSPCore`. -/
def actIsConn (s : State) : State := setResult (padCrcOk s.params s.seq.loc.sp) s

/-- R159 after `ReadSPCore`: `SP_BUF` is written "always, whatever the CRC verdict". -/
def actIsConnSp (s : State) : State := setResult (padCrcOk s.params s.seq.loc.sp) { s with spBuf := s.seq.loc.sp }

/-! ### Scratchpad -/

/-- R190 after `ReadSPCore`. -/
def actReadSpOut (s : State) : State := setResult true { s with spBuf := s.seq.loc.sp }

/-- R192 after `GetResCore`. -/
def actGetResOut (s : State) : State :=
  setResult s.seq.loc.res.isSome { s with resOut := resOutByte s.params s.seq.loc.res }

/-- R193 after `SetResCore`. -/
def actSetResOut (s : State) : State := setResult s.seq.loc.ok s

/-- R194: the cached hint, "set unconditionally". -/
def actGresStart (r : Resolution) (s : State) : State := { s with globalRes := r, seq.loc.allOk := true }

/-- R194 after `Bus.SearchNext`. -/
def actGresFound (r : Resolution) (s : State) : State :=
  match s.seq.loc.found with
  | none => setResult s.seq.loc.allOk s
  | some a =>
    if isValidAddr s.params a then
      push [.act (.setRes a r), .act .gresStored, .searchNext, .act (.gresFound r)] s
    else push [.searchNext, .act (.gresFound r)] s

/-- R194 after `SetResCore`. -/
def actGresStored (s : State) : State := { s with seq.loc.allOk := s.seq.loc.allOk && s.seq.loc.ok }

/-- R195 after the bit (R185: 0 is parasite power). -/
def actReadPowerOut (s : State) : State := setResult (!s.seq.loc.b) s

/-- R196 after `ReadSPCore`. -/
def actGetThOut (s : State) : State :=
  if padCrcOk s.params s.seq.loc.sp then setResult true { s with alarmT := s.seq.loc.sp[2] }
  else setResult false { s with alarmT := s.params.alarmDisc }

/-- R197 after `ReadSPCore`. -/
def actGetTlOut (s : State) : State :=
  if padCrcOk s.params s.seq.loc.sp then setResult true { s with alarmT := s.seq.loc.sp[3] }
  else setResult false { s with alarmT := s.params.alarmDisc }

/-- R198 after `ReadSPCore`: the low threshold and the configuration are kept as read. -/
def actSetThPad (a : Addr) (t : Byte) (s : State) : State :=
  if padCrcOk s.params s.seq.loc.sp then
    push [.act (.writeSp a), .act (.result true)] { s with seq.loc.sp := s.seq.loc.sp.set 2 t }
  else setResult false s

/-- R199 after `ReadSPCore`: the high threshold and the configuration are kept as read. -/
def actSetTlPad (a : Addr) (t : Byte) (s : State) : State :=
  if padCrcOk s.params s.seq.loc.sp then
    push [.act (.writeSp a), .act (.result true)] { s with seq.loc.sp := s.seq.loc.sp.set 3 t }
  else setResult false s

/-! ### Temperature -/

/-- `x[TEMP_FP] <- v` and `RESULT <- (x[TEMP_FP] != DISC_FP)` (R240 to R242). -/
def writeTemp (v : BitVec 32) (s : State) : State := setResult (v != s.params.discFp) { s with tempFp := v }

/-- R240, R241 and R242: the scratchpad at hand is decoded into `TEMP_FP`. -/
def actTempOut (a : Addr) (s : State) : State := writeTemp (BitVec.ofInt 32 (decodeTemp s.params a s.seq.loc.sp)) s

/-- R242 after `GetAddrCore`. -/
def actTempIdx (s : State) : State :=
  match s.seq.loc.found with
  | none => writeTemp s.params.discFp s
  | some a => push (readPadLines s.params a ++ [.act (.tempOut a)]) s

/-! ### Conversion -/

/-- R271: an invalid address fails fast, "PHASE stays 0". -/
def actReqAddr (a : Addr) (s : State) : State :=
  if isValidAddr s.params a then push (convertOneLines s a) s else setResult false s

/-- R272 after `GetAddrCore`. -/
def actReqIdx (s : State) : State :=
  match s.seq.loc.found with
  | none => setResult false s
  | some a => push (convertOneLines s a) s

/-! ### Alarm -/

/-- R301 after `AlarmSearchCore`. -/
def actAlarmOut (s : State) : State := alarmReport s

/-- R303 after `AlarmSearchCore`. -/
def actHasAnyOut (s : State) : State := alarmReport s

/-- R302 after `ReadSPCore`. -/
def actAlarmOfOut (a : Addr) (s : State) : State := setResult (alarmOf s.params a s.seq.loc.sp) s

/-- R304 after `AlarmSearchCore`: a callback for an address whose CRC is right, and the next one. -/
def actProcFound (h : Byte) (s : State) : State :=
  match s.seq.loc.found with
  | none => setResult true (setCrcErr s.seq.loc.err s)
  | some a =>
    if addrCrcOk s.params a then push [.callback h a, .act .alarmStart, .act (.procFound h)] s
    else push [.act .alarmStart, .act (.procFound h)] { s with seq.loc.err := true }

end Sys2Proof.Machine
end

