-- ==== Sys2Proof/Machine/Sequencer.lean ====
section
/-! DEFINITION. The sequencer: what one line of a running command does, and how a command runs (30_encoding.md R111,
20_memory.md R103: "in exactly the order of its pseudocode"). -/

namespace Sys2Proof.Machine

/-- The effect of a program point. -/
def runAct : Act → State → State
  | .result v, s => setResult v s
  | .initFound, s => actInitFound s
  | .initPower, s => actInitPower s
  | .initRes, s => actInitRes s
  | .crcClear, s => actCrcClear s
  | .crcPush b, s => actCrcPush b s
  | .validAddr a, s => actValidAddr a s
  | .addrEq a c, s => actAddrEq a c s
  | .getAddrFound k, s => actGetAddrFound k s
  | .getAddrOut, s => actGetAddrOut s
  | .countFound, s => actCountFound s
  | .isConn, s => actIsConn s
  | .isConnSp, s => actIsConnSp s
  | .readSpOut, s => actReadSpOut s
  | .writeSp a, s => actWriteSp a s
  | .getRes a, s => actGetRes a s
  | .getResPad, s => actGetResPad s
  | .getResOut, s => actGetResOut s
  | .setRes a r, s => actSetRes a r s
  | .setResPad a r, s => actSetResPad a r s
  | .setResVerify r, s => actSetResVerify r s
  | .setResOut, s => actSetResOut s
  | .gresStart r, s => actGresStart r s
  | .gresFound r, s => actGresFound r s
  | .gresStored, s => actGresStored s
  | .readPowerOut, s => actReadPowerOut s
  | .getThOut, s => actGetThOut s
  | .getTlOut, s => actGetTlOut s
  | .setThPad a t, s => actSetThPad a t s
  | .setTlPad a t, s => actSetTlPad a t s
  | .tempOut a, s => actTempOut a s
  | .tempIdx, s => actTempIdx s
  | .setPhase p, s => actSetPhase p s
  | .reqAddr a, s => actReqAddr a s
  | .reqIdx, s => actReqIdx s
  | .convTail t, s => actConvTail t s
  | .convWaiting t, s => actConvWaiting t s
  | .waitConv t, s => actWaitConv t s
  | .pollCheck t0 t, s => actPollCheck t0 t s
  | .waitEnd, s => actWaitEnd s
  | .asReset, s => actAsReset s
  | .alarmStart, s => actAlarmStart s
  | .alarmPresence, s => actAlarmPresence s
  | .alarmBit, s => actAlarmBit s
  | .alarmNext, s => actAlarmNext s
  | .alarmOut, s => actAlarmOut s
  | .alarmOfOut a, s => actAlarmOfOut a s
  | .hasAnyOut, s => actHasAnyOut s
  | .procFound h, s => actProcFound h s

/-- The effect of a line: a primitive of R88 to R99, or a program point. -/
def runLine : Line → State → State
  | .reset, s => busReset s
  | .select a, s => busSelect a s
  | .writeByte b, s => busWriteByte b s
  | .readByte i, s => busReadByte i s
  | .readBit slot, s => busReadBit slot s
  | .writeBit v, s => busWriteBit v s
  | .searchReset, s => busSearchReset s
  | .searchNext, s => busSearchNext s
  | .setPullup on, s => busSetPullup on s
  | .delay us, s => startDelay us s
  | .waitUntil deadline, s => endDelay deadline s
  | .callback h a, s => emitCallback h a s
  | .act x, s => runAct x s

/-- BUSY falls "at the end of the last step" (R111). -/
def settle (s : State) : State := if s.seq.todo.isEmpty then finishCommand s else s

/-- The lines that are a bus primitive "other than `Bus.SetPullup`" (R88, R97). -/
def busPrimitive : Line → Bool
  | .reset | .select _ | .writeByte _ | .readByte _ | .readBit _ | .writeBit _ | .searchReset | .searchNext => true
  | .setPullup _ | .delay _ | .waitUntil _ | .callback _ _ | .act _ => false

/-- The pending pull-up release comes first (R97). -/
def releaseDue (x : Line) (s : State) : Bool := busPrimitive x && s.status.pullupOn

/-- One step of the block (R111): the first of the lines still to run, or the `Bus.SetPullup(0)` that R97 puts before
it, which is a primitive and so a step of its own. -/
def tick (s : State) : State :=
  match s.seq.todo with
  | [] => finishCommand s
  | x :: rest => if releaseDue x s then busSetPullup false s else settle (runLine x { s with seq.todo := rest })

/-- The block runs: at most `n` steps of it, none when it is idle. -/
def runBlock : Nat → State → State
  | 0, s => s
  | n + 1, s => if s.status.busy then runBlock n (tick s) else s

/-- The block's part of one step of the model: at most `quantum + 1` steps of the block (log 4). -/
def advance (s : State) : State := runBlock (s.quantum + 1) s

/-- The start of a command and its run (R111): "BUSY is 1 from the request to the end of the last step". The step of
the model that takes the request runs at most `quantum` steps of the block. DESIGN CHOICE, log 4: the spec does not say
whether a host access or the reset input lands between the accepted request and the command's first line; with quantum 0
one can, at any larger quantum none does. A command with more steps is left BUSY, and the next steps of the model go on
with it. -/
def runCommand (i : Instr) (l : Locals) (code : List Line) (s : State) : Host.Outcome State Fault Refusal :=
  .next (runBlock s.quantum (beginCommand i l code s))

end Sys2Proof.Machine
end

