-- ==== Sys2Proof/Machine/Alarm.lean ====
section
/-! DEFINITION. The meanings of the alarm commands (44_alarm.md, section 2). -/

namespace Sys2Proof.Machine

/-- AS_RESET (R300). -/
def execAsReset (s : State) : Host.Outcome State Fault Refusal :=
  runCommand .asReset Locals.start [.act .asReset, .act (.result true)] s

/-- ALARM_SEARCH (R301). -/
def execAlarmSearch (s : State) : Host.Outcome State Fault Refusal :=
  runCommand .alarmSearch Locals.start [.act .alarmStart, .act .alarmOut] s

/-- HAS_ALARM_ADDR (R302). -/
def execHasAlarmAddr (s : State) : Host.Outcome State Fault Refusal :=
  runCommand .hasAlarmAddr Locals.start (readPadLines s.params s.addrIn ++ [.act (.alarmOfOut s.addrIn)]) s

/-- HAS_ALARM_ANY (R303). -/
def execHasAlarmAny (s : State) : Host.Outcome State Fault Refusal :=
  runCommand .hasAlarmAny Locals.start [.act .asReset, .act .alarmStart, .act .hasAnyOut] s

/-- PROCESS_ALARMS (R304): `HANDLER_ID` is read once, at the start. -/
def execProcessAlarms (s : State) : Host.Outcome State Fault Refusal :=
  runCommand .processAlarms Locals.start [.act .asReset, .act .alarmStart, .act (.procFound s.handlerId)] s

end Sys2Proof.Machine
end

