-- ==== Sys2Proof/Machine/Control.lean ====
section
/-! DEFINITION. The meanings of the control commands (40_crc_registry.md, section 2). -/

namespace Sys2Proof.Machine

/-- NOP (R150). -/
def execNop (s : State) : Host.Outcome State Fault Refusal :=
  runCommand .nop Locals.start [.act (.result true)] s

/-- INIT (R151). -/
def execInit (s : State) : Host.Outcome State Fault Refusal :=
  runCommand .init Locals.start [.searchReset, .searchNext, .act .initFound] s

end Sys2Proof.Machine
end

