-- ==== Sys2Proof/Machine/Conversion.lean ====
section
/-! DEFINITION. The meanings of the conversion commands (43_conversion.md, section 2). -/

namespace Sys2Proof.Machine

/-- REQ_TEMPS (R270). -/
def execReqTemps (s : State) : Host.Outcome State Fault Refusal :=
  runCommand .reqTemps Locals.start (convertAllLines s) s

/-- REQ_TEMP_ADDR (R271). -/
def execReqTempAddr (s : State) : Host.Outcome State Fault Refusal :=
  runCommand .reqTempAddr Locals.start [.act (.reqAddr s.addrIn)] s

/-- REQ_TEMP_IDX (R272). -/
def execReqTempIdx (s : State) : Host.Outcome State Fault Refusal :=
  runCommand .reqTempIdx Locals.start (getAddrLines (argIndex s) ++ [.act .reqIdx]) s

end Sys2Proof.Machine
end

