-- ==== Sys2Proof/Machine/Registry.lean ====
section
/-! DEFINITION. The meanings of the CRC-8 validator, the address registry and the comparator (40_crc_registry.md,
sections 3 and 4). -/

namespace Sys2Proof.Machine

/-- CRC_CLR (R152). -/
def execCrcClr (s : State) : Host.Outcome State Fault Refusal :=
  runCommand .crcClr Locals.start [.act .crcClear] s

/-- CRC_PUSH (R153). -/
def execCrcPush (s : State) : Host.Outcome State Fault Refusal :=
  runCommand .crcPush Locals.start [.act (.crcPush (argByte s))] s

/-- VALID_ADDR (R154). -/
def execValidAddr (s : State) : Host.Outcome State Fault Refusal :=
  runCommand .validAddr Locals.start [.act (.validAddr s.addrIn)] s

/-- ADDR_EQ (R155). -/
def execAddrEq (s : State) : Host.Outcome State Fault Refusal :=
  runCommand .addrEq Locals.start [.act (.addrEq s.addrIn s.addrCmp)] s

/-- GET_ADDR (R156). -/
def execGetAddr (s : State) : Host.Outcome State Fault Refusal :=
  runCommand .getAddr Locals.start (getAddrLines (argIndex s) ++ [.act .getAddrOut]) s

/-- GET_COUNT (R157). -/
def execGetCount (s : State) : Host.Outcome State Fault Refusal :=
  runCommand .getCount Locals.start [.searchReset, .searchNext, .act .countFound] s

/-- IS_CONN (R158). -/
def execIsConn (s : State) : Host.Outcome State Fault Refusal :=
  runCommand .isConn Locals.start (readPadLines s.params s.addrIn ++ [.act .isConn]) s

/-- IS_CONN_SP (R159). -/
def execIsConnSp (s : State) : Host.Outcome State Fault Refusal :=
  runCommand .isConnSp Locals.start (readPadLines s.params s.addrIn ++ [.act .isConnSp]) s

end Sys2Proof.Machine
end

