-- ==== Sys2Proof/Machine/Scratchpad.lean ====
section
/-! DEFINITION. The meanings of the scratchpad codec (41_scratchpad.md, sections 2 to 5). -/

namespace Sys2Proof.Machine

/-- READ_SP (R190). -/
def execReadSp (s : State) : Host.Outcome State Fault Refusal :=
  runCommand .readSp Locals.start (readPadLines s.params s.addrIn ++ [.act .readSpOut]) s

/-- WRITE_SP (R191). -/
def execWriteSp (s : State) : Host.Outcome State Fault Refusal :=
  runCommand .writeSp (localsWithPad s) [.act (.writeSp s.addrIn), .act (.result true)] s

/-- GET_RES (R192). -/
def execGetRes (s : State) : Host.Outcome State Fault Refusal :=
  runCommand .getRes Locals.start [.act (.getRes s.addrIn), .act .getResOut] s

/-- SET_RES (R193). -/
def execSetRes (s : State) : Host.Outcome State Fault Refusal :=
  runCommand .setRes Locals.start [.act (.setRes s.addrIn (argRes s)), .act .setResOut] s

/-- SET_GRES (R194). -/
def execSetGres (s : State) : Host.Outcome State Fault Refusal :=
  runCommand .setGres Locals.start
    [.act (.gresStart (argRes s)), .searchReset, .searchNext, .act (.gresFound (argRes s))] s

/-- READ_POWER (R195). -/
def execReadPower (s : State) : Host.Outcome State Fault Refusal :=
  runCommand .readPower Locals.start (readPowerLines s.params s.addrIn ++ [.act .readPowerOut]) s

/-- GET_TH (R196). -/
def execGetTh (s : State) : Host.Outcome State Fault Refusal :=
  runCommand .getTh Locals.start (readPadLines s.params s.addrIn ++ [.act .getThOut]) s

/-- GET_TL (R197). -/
def execGetTl (s : State) : Host.Outcome State Fault Refusal :=
  runCommand .getTl Locals.start (readPadLines s.params s.addrIn ++ [.act .getTlOut]) s

/-- SET_TH (R198). -/
def execSetTh (s : State) : Host.Outcome State Fault Refusal :=
  runCommand .setTh Locals.start
    (readPadLines s.params s.addrIn ++ [.act (.setThPad s.addrIn (argThreshold s))]) s

/-- SET_TL (R199). -/
def execSetTl (s : State) : Host.Outcome State Fault Refusal :=
  runCommand .setTl Locals.start
    (readPadLines s.params s.addrIn ++ [.act (.setTlPad s.addrIn (argThreshold s))]) s

end Sys2Proof.Machine
end

