-- ==== Sys2Proof/Machine/Temperature.lean ====
section
/-! DEFINITION. The meanings of the decoder commands (42_decoder.md, section 2). -/

namespace Sys2Proof.Machine

/-- CALC_TEMP (R240). -/
def execCalcTemp (s : State) : Host.Outcome State Fault Refusal :=
  runCommand .calcTemp (localsWithPad s) [.act (.tempOut s.addrIn)] s

/-- GET_TEMP (R241). -/
def execGetTemp (s : State) : Host.Outcome State Fault Refusal :=
  runCommand .getTemp Locals.start (readPadLines s.params s.addrIn ++ [.act (.tempOut s.addrIn)]) s

/-- GET_TEMP_IDX (R242). -/
def execGetTempIdx (s : State) : Host.Outcome State Fault Refusal :=
  runCommand .getTempIdx Locals.start (getAddrLines (argIndex s) ++ [.act .tempIdx]) s

end Sys2Proof.Machine
end

