-- ==== Sys2Proof/Machine/Dispatch.lean ====
section
/-! DEFINITION. The dispatch: one arm per command of 30_encoding.md R113. -/

namespace Sys2Proof.Machine

def exec (i : Instr) (s : State) : Host.Outcome State Fault Refusal :=
  match i with
  | .nop => Sys2Proof.Machine.execNop s
  | .init => Sys2Proof.Machine.execInit s
  | .crcClr => Sys2Proof.Machine.execCrcClr s
  | .crcPush => Sys2Proof.Machine.execCrcPush s
  | .validAddr => Sys2Proof.Machine.execValidAddr s
  | .addrEq => Sys2Proof.Machine.execAddrEq s
  | .getAddr => Sys2Proof.Machine.execGetAddr s
  | .getCount => Sys2Proof.Machine.execGetCount s
  | .isConn => Sys2Proof.Machine.execIsConn s
  | .isConnSp => Sys2Proof.Machine.execIsConnSp s
  | .readSp => Sys2Proof.Machine.execReadSp s
  | .writeSp => Sys2Proof.Machine.execWriteSp s
  | .getRes => Sys2Proof.Machine.execGetRes s
  | .setRes => Sys2Proof.Machine.execSetRes s
  | .setGres => Sys2Proof.Machine.execSetGres s
  | .readPower => Sys2Proof.Machine.execReadPower s
  | .getTh => Sys2Proof.Machine.execGetTh s
  | .getTl => Sys2Proof.Machine.execGetTl s
  | .setTh => Sys2Proof.Machine.execSetTh s
  | .setTl => Sys2Proof.Machine.execSetTl s
  | .calcTemp => Sys2Proof.Machine.execCalcTemp s
  | .getTemp => Sys2Proof.Machine.execGetTemp s
  | .getTempIdx => Sys2Proof.Machine.execGetTempIdx s
  | .reqTemps => Sys2Proof.Machine.execReqTemps s
  | .reqTempAddr => Sys2Proof.Machine.execReqTempAddr s
  | .reqTempIdx => Sys2Proof.Machine.execReqTempIdx s
  | .asReset => Sys2Proof.Machine.execAsReset s
  | .alarmSearch => Sys2Proof.Machine.execAlarmSearch s
  | .hasAlarmAddr => Sys2Proof.Machine.execHasAlarmAddr s
  | .hasAlarmAny => Sys2Proof.Machine.execHasAlarmAny s
  | .processAlarms => Sys2Proof.Machine.execProcessAlarms s

end Sys2Proof.Machine
end

