-- ==== Sys2Proof/Machine/HostPort.lean ====
section
/-! DEFINITION. The host's accesses (20_memory.md R81 to R87, R101) and the command request (30_encoding.md R111): what
one step of the model does. -/

namespace Sys2Proof.Machine

/-- The part of a command request that R111 does when the block is idle. -/
def acceptCommand (op : Byte) (s : State) : Host.Outcome State Fault Refusal :=
  match decode op with
  | .ok i => exec i { s with lastCmd := op }
  | .error _ => .next (illegalCommand { s with lastCmd := op })

/-- `MemWrite(0x00, 1, op)` (R111). -/
def requestCommand (op : Byte) (s : State) : Host.Outcome State Fault Refusal :=
  if s.status.busy then .next (overrun s) else acceptCommand op s

/-- A write to an operand or control register: stored when idle, an overrun while BUSY (R86). -/
def storeOrOverrun (stored : State) (s : State) : Host.Outcome State Fault Refusal :=
  .next (if s.status.busy then overrun s else stored)

/-- `MemWrite` of `v` to a register of the map (R82, R83, R86): "a write to a read-only offset is ignored". -/
def writeReg (v : Byte) (s : State) : HostReg → Host.Outcome State Fault Refusal
  | .cmd => requestCommand v s
  | .status => .next (acknowledge v s)
  | .ctrl => storeOrOverrun { s with ctrl := ctrlOfByte v } s
  | .arg => storeOrOverrun { s with arg := v } s
  | .handlerId => storeOrOverrun { s with handlerId := v } s
  | .addrIn i => storeOrOverrun { s with addrIn := s.addrIn.setIfInBounds i v } s
  | .addrCmp i => storeOrOverrun { s with addrCmp := s.addrCmp.setIfInBounds i v } s
  | .spBuf i => storeOrOverrun { s with spBuf := s.spBuf.setIfInBounds i v } s
  | .globalRes | .deviceCount | .resOut | .alarmT | .crcAcc | .phase | .tempFp _ | .addrOut _ | .reserved => .next s

/-- `MemWrite(off, 1, v)` (R81). -/
def hostWrite (off : BitVec 6) (v : Byte) (s : State) : Host.Outcome State Fault Refusal := writeReg v s (hostReg off)

/-- `MemRead(off, 1)` (R81, R87, R101): no side effect on a register; the byte goes to `reads`. A read of a result
register while BUSY takes a free value, `any()`. -/
def hostRead (off : BitVec 6) (s : State) : State :=
  if s.status.busy && isResultReg (hostReg off) then
    { s with reads := s.reads ++ [(off, Config.freeRead s.reads.length)] }
  else { s with reads := s.reads ++ [(off, hostByte s off)] }

/-- What a turn does, with the turn itself taken off the list (log 3). The reset input is one turn, without a time during
which it is held asserted: R370 gives the state "once reset is released", and the spec does not say what a host access
does before that (DESIGN CHOICE, log 21). -/
def takeTurn (t : Turn) (s : State) : Host.Outcome State Fault Refusal :=
  match t with
  | .pass => .next (advance s)
  | .reset => .next (resetBlock s)
  | .read off => .next (hostRead off s)
  | .write off v => hostWrite off v s

/-- One step of the model: the next turn, or the block alone when nothing outside it waits. -/
def nextTurn (s : State) : Host.Outcome State Fault Refusal :=
  match s.env.turns with
  | [] => .next (advance s)
  | t :: ts => takeTurn t { s with env.turns := ts }

/-- The offset of `CMD` (R82). -/
def cmdOffset : BitVec 6 := 0x00

/-- The state with a command word standing where the next step takes it: the host's next access is the write of the
word to `CMD`, and no command is in progress, so that the write is accepted (log 6). -/
def placeCommand (op : Byte) (s : State) : State :=
  { s with status.busy := false, seq := Micro.none, env.turns := .write cmdOffset op :: s.env.turns }

end Sys2Proof.Machine
end

