-- ==== Sys2Proof/Machine/Step.lean ====
section
/-! DEFINITION. One step of the machine. -/

namespace Sys2Proof.Machine

/-- One step: a host access, the reset input, or lines of the running command (30_encoding.md R111, log 3, log 4). -/
def step (s : State) : Host.Outcome State Fault Refusal := nextTurn s

/-- `s` with the instruction whose bits are `w` standing where `step` takes its next one: the host's next write to
`CMD` (R105: "a command code is taken from the host write that carries it"). Every instruction is one byte, so
`nbits` says nothing more. -/
def State.withFetchWord (s : State) (_nbits w : Nat) : State := placeCommand (commandByte w) s

end Sys2Proof.Machine
end

