-- ==== Sys2Proof/Machine/Pseudocode.lean ====
section
/-! DEFINITION. The pseudocode of the command rules written as functions from the state before to the state after, as
the rules print it: what statements about whole commands are written in. The machine does not call them; it runs the
same pseudocode line by line (Machine/Sequencer.lean), and statements say that the two agree. They never read or write
BUSY and the micro-state, and they leave out the conversion commands' writes of PHASE (R261), which the statements about
those commands add. A loop that need not end (R389) takes a bound on its rounds and answers `none` beyond it. -/

namespace Sys2Proof.Machine

/-! ### Primitives -/

/-- The release that comes before a bus primitive while the pull-up is asserted (R97). -/
def pendingRelease (s : State) : List Event := if s.status.pullupOn then [.setPullup false] else []

/-- A bus primitive other than `Bus.SetPullup`, recorded as `e` (R88, R97). -/
def perform (e : Event) (s : State) : State :=
  { s with status.pullupOn := false, trace := s.trace ++ (pendingRelease s ++ [e]) }

/-- `Delay(us)` (R96), from its start to its end. No bus primitive, so no pull-up release. -/
def delayFor (us : Nat) (s : State) : State :=
  emit (.delay us) { s with clock := s.clock + us + tickAnswer s, env.ticks := restAnswers s.env.ticks }

/-- `Bus.Reset()` (R89). -/
def pcReset (s : State) : State :=
  { perform (.reset (presenceAnswer s)) s with env.presence := restAnswers s.env.presence }

/-- `Bus.ReadBit()` (R93). -/
def pcReadBit (s : State) : State :=
  { perform (.readBit (bitAnswer s)) s with env.bits := restAnswers s.env.bits }

/-- `Bus.SearchNext()` (R94). -/
def pcSearchNext (s : State) : State :=
  { perform (.searchNext (foundAnswer s)) s with env.found := restAnswers s.env.found }

/-- The nine bytes the next scratchpad read gets. -/
def padAnswer (s : State) : Pad :=
  #v[peekAnswer Config.freeByte s.env.bytes 0, peekAnswer Config.freeByte s.env.bytes 1,
     peekAnswer Config.freeByte s.env.bytes 2, peekAnswer Config.freeByte s.env.bytes 3,
     peekAnswer Config.freeByte s.env.bytes 4, peekAnswer Config.freeByte s.env.bytes 5,
     peekAnswer Config.freeByte s.env.bytes 6, peekAnswer Config.freeByte s.env.bytes 7,
     peekAnswer Config.freeByte s.env.bytes 8]

/-! ### Scratchpad, power and resolution -/

/-- The bus history of `ReadSPCore(a)` (R180). -/
def readPadEvents (s : State) (a : Addr) : List Event :=
  [.reset (presenceAnswer s), .select a, .writeByte s.params.wire.readScratch] ++ (padAnswer s).toList.map .readByte

/-- `ReadSPCore(a)` (R180); its result is `padAnswer`. -/
def pcReadPad (a : Addr) (s : State) : State :=
  { s with
    status.pullupOn := false
    trace := s.trace ++ (pendingRelease s ++ readPadEvents s a)
    env.presence := restAnswers s.env.presence
    env.bytes := skipAnswers 9 s.env.bytes }

/-- The transfer of R181. -/
def pcWriteBytes (a : Addr) (sp : Pad) (s : State) : State :=
  perform (.writeByte sp[4]) (perform (.writeByte sp[3]) (perform (.writeByte sp[2])
    (perform (.writeByte s.params.wire.writeScratch) (perform (.select a) (pcReset s)))))

/-- The EEPROM copy of R181. -/
def pcCopy (a : Addr) (s : State) : State :=
  let t := perform (.writeByte s.params.wire.copyScratch) (perform (.select a) (pcReset s))
  if s.status.parasite then busSetPullup false (delayFor s.params.tCopy (busSetPullup true t)) else t

/-- `WriteSPCore(a, sp)` (R181). -/
def pcWritePad (a : Addr) (sp : Pad) (s : State) : State :=
  if wantsCopy s a then pcCopy a (pcWriteBytes a sp s) else pcWriteBytes a sp s

/-- `ReadPowerCore(a)` (R185); its result is `!bitAnswer`. -/
def pcReadPower (a : Addr) (s : State) : State :=
  pcReadBit (perform (.writeByte s.params.wire.readPower) (perform (.select a) (pcReset s)))

/-- The result of `GetResCore(a)` (R183). -/
def getResResult (a : Addr) (s : State) : Option Resolution :=
  match fixedRes s.params a with
  | some r => some r
  | none => resOfPad s.params (padAnswer s)

/-- `GetResCore(a)` (R183). -/
def pcGetRes (a : Addr) (s : State) : State :=
  match fixedRes s.params a with
  | some _ => s
  | none => pcReadPad a s

/-- The write of `SetResCore` (R184): the pad as read, with the mask in place of its configuration byte. -/
def pcRewrite (a : Addr) (r : Resolution) (s : State) : State :=
  pcWritePad a ((padAnswer s).set 4 (perRes s.params.resMask r)) (pcReadPad a s)

/-- The result of `SetResCore(a, req)` with the clamped request (R184). -/
def setResResult (a : Addr) (r : Resolution) (s : State) : Bool :=
  match fixedRes s.params a with
  | some _ => true
  | none => padCrcOk s.params (padAnswer s) && getResResult a (pcRewrite a r s) == some r

/-- `SetResCore(a, req)` with the clamped request (R184). -/
def pcSetRes (a : Addr) (r : Resolution) (s : State) : State :=
  match fixedRes s.params a with
  | some _ => s
  | none => if padCrcOk s.params (padAnswer s) then pcGetRes a (pcRewrite a r s) else pcReadPad a s

/-! ### Searches -/

/-- The walk of `GetAddrCore` (R145) with `k` advances to make after the next one: its result, and the state. -/
def pcLookup : Nat → State → Option Addr × State
  | k, s =>
    match foundAnswer s with
    | none => (none, pcSearchNext s)
    | some a =>
      if isValidAddr s.params a then
        match k with
        | 0 => (some a, pcSearchNext s)
        | k + 1 => pcLookup k (pcSearchNext s)
      else (none, pcSearchNext s)

/-- `GetAddrCore(idx)` (R145). -/
def pcGetAddr (idx : Nat) (s : State) : Option Addr × State := pcLookup idx (perform .searchReset s)

/-- The loop of `CountCore` (R146) from the count `n`. -/
def pcCount : Nat → Nat → State → Option (Nat × State)
  | 0, _, _ => none
  | fuel + 1, n, s =>
    match foundAnswer s with
    | none => some (n, pcSearchNext s)
    | some a => pcCount fuel (if isValidAddr s.params a then countUp n else n) (pcSearchNext s)

/-- What INIT has learnt so far (R151): `n`, `par` and `maxres`. -/
structure Survey where
  count : Nat
  par : Bool
  maxres : Option Resolution
  deriving DecidableEq, Repr

/-- The body of INIT's loop for a valid address (R151). -/
def surveyDevice (a : Addr) (v : Survey) (s : State) : Survey :=
  ⟨countUp v.count,
   v.par || !bitAnswer s,
   maxResOpt v.maxres (getResResult a (pcReadPower a s))⟩

/-- The loop of INIT (R151). -/
def pcSurvey : Nat → Survey → State → Option (Survey × State)
  | 0, _, _ => none
  | fuel + 1, v, s =>
    match foundAnswer s with
    | none => some (v, pcSearchNext s)
    | some a =>
      if isValidAddr s.params a then
        pcSurvey fuel (surveyDevice a v (pcSearchNext s)) (pcGetRes a (pcReadPower a (pcSearchNext s)))
      else pcSurvey fuel v (pcSearchNext s)

/-- The loop of SET_GRES (R194) from the conjunction `ok`. -/
def pcSetAll (r : Resolution) : Nat → Bool → State → Option (Bool × State)
  | 0, _, _ => none
  | fuel + 1, ok, s =>
    match foundAnswer s with
    | none => some (ok, pcSearchNext s)
    | some a =>
      if isValidAddr s.params a then
        pcSetAll r fuel (ok && setResResult a r (pcSearchNext s)) (pcSetRes a r (pcSearchNext s))
      else pcSetAll r fuel ok (pcSearchNext s)

/-! ### Conversion -/

/-- The end of the conversion duration (R264). -/
def pcWaitEnd (s : State) : State := if s.status.pullupOn then busSetPullup false s else s

/-- The polling loop of `WaitConv` (R264, R265), of at most so many samples. -/
def pcPoll (t0 t : Nat) : Nat → State → Option State
  | 0, _ => none
  | fuel + 1, s =>
    if bitAnswer s then some (pcReadBit s)
    else if t < (readClock (pcReadBit s)).clock - t0 then some (readClock (pcReadBit s))
    else pcPoll t0 t fuel (readClock (pcReadBit s))

/-- `WaitConv(T)` (R264), a poll of at most `fuel` samples. -/
def pcWaitConv (fuel t : Nat) (s : State) : Option State :=
  if s.ctrl.pollEn && !s.status.parasite then
    (pcPoll (readClock s).clock t fuel (readClock s)).map pcWaitEnd
  else some (pcWaitEnd (delayFor t s))

/-- `ConvTail(T)` (R267) but for its writes of `PHASE`; the statements about the conversion commands add that they end with
`PHASE` Idle. -/
def pcConvTail (fuel t : Nat) (s : State) : Option State :=
  let u := if s.status.parasite then busSetPullup true s else s
  if s.ctrl.waitEn then pcWaitConv fuel t u else some u

/-- The targeted start-conversion sequence (R271), after its write of `PHASE`. -/
def pcStartOne (a : Addr) (s : State) : State :=
  perform (.writeByte s.params.wire.convertT) (perform (.select a) (pcReset s))

/-- The broadcast start-conversion sequence (R270), after its write of `PHASE`. -/
def pcStartAll (s : State) : State :=
  perform (.writeByte s.params.wire.convertT) (perform (.writeByte s.params.wire.skipRom) (pcReset s))

/-! ### The alarm search -/

/-- The loop of `AlarmSearchCore` (R291) with `n` bit positions left, from bit `i`: the address found, if any. -/
def pcAlarmBits : Nat → Nat → Int → Bool → State → Option Addr × State
  | 0, _, _, done, s => (some s.asAddr, setExhausted (s.status.asExhausted || done) s)
  | n + 1, i, last, done, s =>
    let b := bitAnswer s
    let nb := bitAnswer (pcReadBit s)
    let t := pcReadBit (pcReadBit s)
    if b && nb then (none, setExhausted true t)
    else
      let w := chooseBranch i b nb s.asJunction (addrBit s.asAddr i) last done
      pcAlarmBits n (i + 1) w.last w.done
        (perform (.writeBit w.bit) { t with asAddr := setAddrBit s.asAddr i w.bit, asJunction := w.junction })

/-- `AlarmSearchCore()` (R291). -/
def pcAlarmSearch (s : State) : Option Addr × State :=
  if s.status.asExhausted then (none, s)
  else if presenceAnswer s then
    pcAlarmBits 64 0 (-1) true (perform (.writeByte s.params.wire.alarmSearch) (pcReset s))
  else (none, setExhausted true (pcReset s))

/-- What ALARM_SEARCH and HAS_ALARM_ANY leave of a search's result (R301, R303). -/
def pcReport (found : Option Addr) (s : State) : State :=
  match found with
  | some a => setResult true (setCrcErr (!addrCrcOk s.params a) { s with addrOut := a })
  | none => setResult false (setCrcErr false s)

/-- The loop of PROCESS_ALARMS (R304) from the value `err`. -/
def pcDrain (h : Byte) : Nat → Bool → State → Option (Bool × State)
  | 0, _, _ => none
  | fuel + 1, err, s =>
    match pcAlarmSearch s with
    | (none, t) => some (err, t)
    | (some a, t) =>
      if addrCrcOk t.params a then pcDrain h fuel err (emitCallback h a t) else pcDrain h fuel true t

end Sys2Proof.Machine
end

