-- ==== Sys2Proof/Safety.lean ====
section
/-! DEFINITION. What a sound state is, and the words statements about runs are written in. The block has no fault
(R330), so a safe run is one whose states stay sound. -/

namespace Sys2Proof.Machine

/-! ### PHASE -/

/-- The transitions of `PHASE` with `WAIT_EN` as given (R261). -/
def phaseMove (waitEn : Bool) : Phase → Phase → Bool
  | .idle, .requested | .requested, .waiting | .complete, .idle => true
  | .waiting, .complete => waitEn
  | .waiting, .idle => !waitEn
  | _, _ => false

/-- Where a line takes `PHASE` from `p`, with everything it puts in front of the lines still to run: `none` where that is
not a path of R261. `ConvTail` goes from ConversionRequested to Idle (R267), the address checks stand in Idle (R271,
R272). -/
def phaseAfter (waitEn : Bool) (p : Phase) : Line → Option Phase
  | .act (.setPhase q) => if phaseMove waitEn p q then some q else none
  | .act (.convTail _) | .act (.convWaiting _) => if p = .requested then some .idle else none
  | .act (.reqAddr _) | .act .reqIdx => if p = .idle then some .idle else none
  | _ => some p

/-- Where the lines take `PHASE` from `p`, one after the other. -/
def phasePath (waitEn : Bool) : Phase → List Line → Option Phase
  | p, [] => some p
  | p, x :: rest => (phaseAfter waitEn p x).bind (fun q => phasePath waitEn q rest)

/-- The command in progress, if any, takes `PHASE` back to Idle, and on the way only along R261 (R49). -/
def endsIdle (s : State) : Bool := phasePath s.ctrl.waitEn s.phase s.seq.todo == some .idle

/-- At some step of the block of the command begun in `u`, while it is BUSY, `PHASE` is `p` and the history is `h` (R261,
R87: what a host read then sees). -/
def showsPhase (u : State) (p : Phase) (h : List Event) : Prop :=
  ∃ k, (runBlock k u).status.busy = true ∧ (runBlock k u).phase = p ∧ (runBlock k u).trace = h

/-- A conversion command begun in `u` shows every state of R261: ConversionRequested before its first start primitive, the
history then being `before`; Waiting after the start sequence `started` and the pull-up decision; Complete when the wait
is over, the history then being `waited`, where `WAIT_EN` is 1. -/
def showsPhases (u : State) (before started waited : List Event) : Prop :=
  showsPhase u .requested before ∧
  showsPhase u .waiting (started ++ if u.status.parasite then [.setPullup true] else []) ∧
  (u.ctrl.waitEn = true → showsPhase u .complete waited)

/-! ### Whose line it is -/

/-- The commands whose rules contain a program point (the rules named at `Act`). -/
def actOwners : Act → List Instr
  | .result _ => [.nop, .writeSp, .setTh, .setTl, .reqTemps, .reqTempAddr, .reqTempIdx, .asReset]
  | .initFound | .initPower | .initRes => [.init]
  | .crcClear => [.crcClr]
  | .crcPush _ => [.crcPush]
  | .validAddr _ => [.validAddr]
  | .addrEq _ _ => [.addrEq]
  | .getAddrFound _ => [.getAddr, .getTempIdx, .reqTempIdx]
  | .getAddrOut => [.getAddr]
  | .countFound => [.getCount]
  | .isConn => [.isConn]
  | .isConnSp => [.isConnSp]
  | .readSpOut => [.readSp]
  | .writeSp _ => [.writeSp, .setRes, .setGres, .setTh, .setTl]
  | .getRes _ | .getResPad => [.init, .getRes, .setRes, .setGres]
  | .getResOut => [.getRes]
  | .setRes _ _ | .setResPad _ _ | .setResVerify _ => [.setRes, .setGres]
  | .setResOut => [.setRes]
  | .gresStart _ | .gresFound _ | .gresStored => [.setGres]
  | .readPowerOut => [.readPower]
  | .getThOut => [.getTh]
  | .getTlOut => [.getTl]
  | .setThPad _ _ => [.setTh]
  | .setTlPad _ _ => [.setTl]
  | .tempOut _ => [.calcTemp, .getTemp, .getTempIdx]
  | .tempIdx => [.getTempIdx]
  | .setPhase _ | .convTail _ | .convWaiting _ | .waitConv _ | .pollCheck _ _ | .waitEnd =>
    [.reqTemps, .reqTempAddr, .reqTempIdx]
  | .reqAddr _ => [.reqTempAddr]
  | .reqIdx => [.reqTempIdx]
  | .asReset => [.asReset, .hasAlarmAny, .processAlarms]
  | .alarmStart | .alarmPresence | .alarmBit | .alarmNext => [.alarmSearch, .hasAlarmAny, .processAlarms]
  | .alarmOut => [.alarmSearch]
  | .alarmOfOut _ => [.hasAlarmAddr]
  | .hasAnyOut => [.hasAlarmAny]
  | .procFound _ => [.processAlarms]

/-- A line a command may have still to run: one of its own program points; bus primitives, delays and callbacks
belong to every command. -/
def lineOf (i : Instr) : Line → Bool
  | .act x => (actOwners x).contains i
  | _ => true

/-- The micro-state of R56 is one of the command it names, and there is one while lines are left. -/
def microOk (m : Micro) : Bool :=
  match m.cmd with
  | some i => m.todo.all (lineOf i)
  | none => m.todo.isEmpty

/-! ### Sound states -/

/-- What every step keeps: BUSY says that a command is in progress (R43, R111), an idle block has no micro-state (R56),
the lines still to run are the command's own, `PHASE` is on its way back to Idle along R261 (R49), `AS_JUNCTION` is in -1..63
(R54), and so are the loop variables it is written from, and the counts are at most 255 (R48, R146). -/
structure Sound (s : State) : Prop where
  busy_iff : s.status.busy = true ↔ s.seq.todo ≠ []
  idle_micro : s.status.busy = false → s.seq = Micro.none
  micro : microOk s.seq = true
  phase : endsIdle s = true
  junction : -1 ≤ s.asJunction ∧ s.asJunction ≤ 63
  last : -1 ≤ s.seq.loc.last ∧ s.seq.loc.last ≤ 63
  bitIndex : s.seq.loc.i ≤ 63
  count : s.seq.loc.n ≤ 255

/-- The command that works in the next step: the one the host requests, when the block takes the request, or the one
in progress. None in a step of another host access or of the reset input. -/
def commandAtWork (s : State) : Option Instr :=
  match s.env.turns with
  | [] | .pass :: _ => s.seq.cmd
  | .reset :: _ | .read _ :: _ => none
  | .write off op :: _ =>
    if off = cmdOffset ∧ s.status.busy = false then
      match decode op with
      | .ok i => some i
      | .error _ => none
    else none

/-- The same state with other values of what no line of a command reads or writes: the sticky bits a host write sets or
clears while the command runs (R86, R43), and the model's own turns, log of reads and quantum. -/
def withOutside (illegal overrun : Bool) (turns : List Turn) (reads : List (BitVec 6 × Byte)) (quantum : Nat)
    (s : State) : State :=
  { s with
    status.illegal := illegal, status.overrun := overrun, env.turns := turns, reads := reads, quantum := quantum }

/-- Nothing of the block but the pull-up level differs, and nothing of its surroundings but what bus primitives, delays
and clock readings leave: the history, the answers drawn, the clock. -/
def onlyTheBus (s t : State) : Prop :=
  t = { s with status.pullupOn := t.status.pullupOn, trace := t.trace, env := t.env, clock := t.clock }

/-- As `onlyTheBus`, and the alarm cursor with its exhausted flag (R53, R54) may differ. -/
def onlyTheBusAndCursor (s t : State) : Prop :=
  t = { s with
    status.pullupOn := t.status.pullupOn, status.asExhausted := t.status.asExhausted, asAddr := t.asAddr,
    asJunction := t.asJunction, trace := t.trace, env := t.env, clock := t.clock }

/-! ### The alarm search against a fixed set of devices (R292) -/

/-- `a` comes before `c` in increasing lexicographic order of the bit string, 0 before 1 (R108, R292). -/
def precedes (a c : Addr) : Prop :=
  ∃ i < 64, (∀ j < i, addrBit a j = addrBit c j) ∧ addrBit a i = false ∧ addrBit c i = true

/-- The devices still taking part in the search at bit `i` of the path `a`: those the bits written so far have not
deselected (R291). -/
def taking (devs : List Addr) (a : Addr) (i : Nat) : List Addr :=
  devs.filter (fun d => (List.range i).all (fun j => addrBit d j == addrBit a j))

/-- What the two read slots of each bit position answer along the path `a`: the wired AND of the bit and of its
complement over the devices still taking part (R291). -/
def slotAnswers (devs : List Addr) (a : Addr) : List Bool :=
  (List.range 64).flatMap (fun i =>
    [(taking devs a i).all (fun d => addrBit d i), (taking devs a i).all (fun d => !addrBit d i)])

/-- The four events an alarm search performs (R291). -/
def isResetEvent : Event → Bool
  | .reset _ => true
  | _ => false

/-- See `isResetEvent`. -/
def isWriteByteEvent : Event → Bool
  | .writeByte _ => true
  | _ => false

/-- See `isResetEvent`. -/
def isReadBitEvent : Event → Bool
  | .readBit _ => true
  | _ => false

/-- See `isResetEvent`. -/
def isWriteBitEvent : Event → Bool
  | .writeBit _ => true
  | _ => false

/-- So many calls of the alarm search one after the other: their results, first one first, and the state after. -/
def alarmCalls : Nat → State → List (Option Addr) × State
  | 0, s => ([], s)
  | n + 1, s => ((pcAlarmSearch s).1 :: (alarmCalls n (pcAlarmSearch s).2).1, (alarmCalls n (pcAlarmSearch s).2).2)

/-! ### The strong pull-up in a run's history -/

/-- The pull-up level after an event (R95). -/
def pullupAfter (on : Bool) : Event → Bool
  | .setPullup v => v
  | _ => on

/-- A bus primitive other than `Bus.SetPullup` (R88). -/
def otherPrimitive : Event → Bool
  | .reset _ | .select _ | .writeByte _ | .readByte _ | .readBit _ | .writeBit _ | .searchReset | .searchNext _ => true
  | .setPullup _ | .delay _ | .callback _ _ => false

/-- From the level `on`, no bus primitive of these events is performed while the pull-up is asserted (R97). -/
def releasedFirst (on : Bool) : List Event → Bool
  | [] => true
  | e :: es => !(on && otherPrimitive e) && releasedFirst (pullupAfter on e) es

/-! ### The conversion wait (R262 to R264) -/

/-- `n = ceil(t * scale)` (R262): the least number that is not below the product. -/
def isCeil (t : Nat) (scale : Scale) (n : Nat) : Prop :=
  t * scale.num ≤ n * scale.den ∧ ∀ m, t * scale.num ≤ m * scale.den → n ≤ m

/-- One scale is not larger than another, as rational numbers (R11, R262). -/
def atMost (c d : Scale) : Prop := c.num * d.den ≤ d.num * c.den

/-- What a blocking wait of `T` shows (R263, R264): the Delay, with the pull-up around it under parasite power. -/
def waitEvents (parasite : Bool) (T : Nat) : List Event :=
  if parasite then [.setPullup true, .delay T, .setPullup false] else [.delay T]

/-- From the state `s`, a conversion command has ended in `t`: it has performed a pending release (R97), the primitives
`start` and a blocking wait of `T`, and the clock has advanced by at least `T` (R262 to R264, R268). -/
def waitsOut (T : Nat) (start : List Event) (s t : State) : Prop :=
  t.status.busy = false ∧ t.status.result = true ∧ t.phase = .idle ∧ t.status.pullupOn = false ∧
  s.clock + T ≤ t.clock ∧
  t.trace = s.trace ++ (pendingRelease s ++ start ++ waitEvents s.status.parasite T)

/-! ### Room -/

/-- The step of the model that takes a request runs more steps of the block than any command that has no unbounded loop
(R389). -/
def Roomy (s : State) : Prop := 2048 ≤ s.quantum

end Sys2Proof.Machine
end

