-- ==== Sys2Proof/Certificates/Slice0/Obligations.lean ====
section
/-! DEFINITION. The statements for the provers, from the numbered rules of spec/. "Lines", "quantum" and the functions
`pc…` of Machine/Pseudocode.lean are the model's words: `Roomy` and the bounds on `quantum` say that the step of the model
that takes the request runs the whole command (log 4); a line is at most two steps of the block (log 10). -/

section

open Sys2Proof Sys2Proof.Machine

/-- O1. Each code of the opcode map decodes to its command (30_encoding.md R113). -/
def Obligations.DecoderReadsTheTable : Prop :=
  [decode 0x00#8, decode 0x01#8, decode 0x10#8, decode 0x11#8, decode 0x18#8, decode 0x19#8, decode 0x1A#8,
   decode 0x1B#8, decode 0x1C#8, decode 0x1D#8, decode 0x20#8, decode 0x21#8, decode 0x22#8, decode 0x23#8,
   decode 0x24#8, decode 0x25#8, decode 0x26#8, decode 0x27#8, decode 0x28#8, decode 0x29#8, decode 0x30#8,
   decode 0x31#8, decode 0x32#8, decode 0x40#8, decode 0x41#8, decode 0x42#8, decode 0x50#8, decode 0x51#8,
   decode 0x52#8, decode 0x53#8, decode 0x54#8]
  = [.ok .nop, .ok .init, .ok .crcClr, .ok .crcPush, .ok .validAddr, .ok .addrEq, .ok .getAddr,
     .ok .getCount, .ok .isConn, .ok .isConnSp, .ok .readSp, .ok .writeSp, .ok .getRes, .ok .setRes,
     .ok .setGres, .ok .readPower, .ok .getTh, .ok .getTl, .ok .setTh, .ok .setTl, .ok .calcTemp,
     .ok .getTemp, .ok .getTempIdx, .ok .reqTemps, .ok .reqTempAddr, .ok .reqTempIdx, .ok .asReset, .ok .alarmSearch,
     .ok .hasAlarmAddr, .ok .hasAlarmAny, .ok .processAlarms]

/-- O2. Every byte is exactly one command or illegal, and the encoder writes the code back (R117). -/
def Obligations.DecodingIsTotal : Prop :=
  (∀ op : Byte, (∃ i, decode op = .ok i ∧ encode i = op ∧ ∀ j, encode j = op → j = i) ∨
    (decode op = .error (.illegalCommand op) ∧ wellFormedCode op = false ∧ ∀ j, encode j ≠ op)) ∧
  (List.range 256).countP (fun n => wellFormedCode (BitVec.ofNat 8 n)) = 31 ∧
  (∀ i : Instr, i.wellFormed = true → decode (encode i) = .ok i) ∧
  (∀ nbits w, nbits ≠ 8 → decodeTableWord nbits w = none)

/-- O3. A step that takes a command request runs the decoded command (30_encoding.md R111, 20_memory.md R105). That
quantum 0 leaves the first line to a later step is the model's choice (log 4). -/
def Obligations.StepRunsTheRequestedCommand : Prop :=
  ∀ (s : State) (op : Byte) (ts : List Turn) (i : Instr), s.status.busy = false →
    s.env.turns = .write 0x00 op :: ts → decode op = .ok i →
    step s = exec i { s with lastCmd := op, env.turns := ts } ∧
    (s.quantum = 0 → ∃ m, step s = .next { s with lastCmd := op, env.turns := ts, status.busy := true, seq := m } ∧
      m.cmd = some i ∧ m.todo ≠ [])

/-- O4. An unassigned code takes IllegalCommand and nothing else happens (R331, R336). -/
def Obligations.IllegalRequestTakesTheException : Prop :=
  ∀ (s : State) (op : Byte) (ts : List Turn), s.status.busy = false →
    s.env.turns = .write 0x00 op :: ts → wellFormedCode op = false →
    step s = .next { s with
      lastCmd := op, status.illegal := true, status.result := false, status.busy := false, env.turns := ts }

/-- O5. A host write while BUSY: discarded with OVERRUN, a W1C write performed, read-only ignored (R86). -/
def Obligations.WritesWhileBusy : Prop :=
  ∀ (s : State) (off : BitVec 6) (v : Byte) (ts : List Turn), s.status.busy = true →
    s.env.turns = .write off v :: ts →
    step s = .next
      (if off = 0x01#6 then
        { s with
          status.illegal := s.status.illegal && !v.getLsbD 2
          status.overrun := s.status.overrun && !v.getLsbD 3
          env.turns := ts }
      else if off ∈ [0x00#6, 0x02#6, 0x03#6, 0x04#6] ∨ (0x10 ≤ off.toNat ∧ off.toNat ≤ 0x1F) ∨
          (0x28 ≤ off.toNat ∧ off.toNat ≤ 0x30) then
        { s with status.overrun := true, env.turns := ts }
      else { s with env.turns := ts })

/-- O6. A host write while idle stores its byte, and has no other effect (20_memory.md R82, 10_state.md R43,
10_state.md R45, 20_memory.md R101). -/
def Obligations.WritesWhileIdle : Prop :=
  ∀ (s : State) (v : Byte) (ts : List Turn), s.status.busy = false →
    (s.env.turns = .write 0x01 v :: ts → step s = .next
      { s with
        status.illegal := s.status.illegal && !v.getLsbD 2
        status.overrun := s.status.overrun && !v.getLsbD 3
        env.turns := ts }) ∧
    (s.env.turns = .write 0x02 v :: ts →
      step s = .next { s with ctrl := ⟨v.getLsbD 0, v.getLsbD 1, v.getLsbD 2⟩, env.turns := ts }) ∧
    (s.env.turns = .write 0x03 v :: ts → step s = .next { s with arg := v, env.turns := ts }) ∧
    (s.env.turns = .write 0x04 v :: ts → step s = .next { s with handlerId := v, env.turns := ts }) ∧
    (∀ (i : Nat) (h : i < 8), s.env.turns = .write (BitVec.ofNat 6 (0x10 + i)) v :: ts →
      step s = .next { s with addrIn := s.addrIn.set i v h, env.turns := ts }) ∧
    (∀ (i : Nat) (h : i < 8), s.env.turns = .write (BitVec.ofNat 6 (0x18 + i)) v :: ts →
      step s = .next { s with addrCmp := s.addrCmp.set i v h, env.turns := ts }) ∧
    (∀ (i : Nat) (h : i < 9), s.env.turns = .write (BitVec.ofNat 6 (0x28 + i)) v :: ts →
      step s = .next { s with spBuf := s.spBuf.set i v h, env.turns := ts })

/-- O7. Reserved offsets read 0 and ignore writes, as do the reserved bits of CTRL; read-only registers ignore
writes (R83). -/
def Obligations.ReservedAndReadOnlyOffsets : Prop :=
  (∀ (s : State) (off : BitVec 6), (off = 0x0B#6 ∨ 0x31 ≤ off.toNat) →
    ∀ ts, s.env.turns = .read off :: ts → step s = .next { s with env.turns := ts, reads := s.reads ++ [(off, 0x00)] }) ∧
  (∀ (s : State) (off : BitVec 6) (v : Byte) (ts : List Turn),
    ((0x05 ≤ off.toNat ∧ off.toNat ≤ 0x0F) ∨ (0x20 ≤ off.toNat ∧ off.toNat ≤ 0x27) ∨ 0x31 ≤ off.toNat) →
    s.env.turns = .write off v :: ts → step s = .next { s with env.turns := ts }) ∧
  (∀ s : State, hostByte s 0x02 &&& 0xF8 = 0x00) ∧
  (∀ (s : State) (v : Byte) (ts : List Turn), s.status.busy = false → s.env.turns = .write 0x02 v :: ts →
    ∃ t, step s = .next t ∧ hostByte t 0x02 = v &&& 0x07)

/-- O8. A host read returns the current value, or any value of a result register while BUSY, and changes no register
(R87). -/
def Obligations.HostReadsHaveNoSideEffect : Prop :=
  ∀ (s : State) (off : BitVec 6) (ts : List Turn), s.env.turns = .read off :: ts →
    step s = .next { s with
      env.turns := ts
      reads := s.reads ++ [(off,
        if s.status.busy = true ∧ (off ∈ [0x05#6, 0x06#6, 0x07#6, 0x08#6, 0x09#6] ∨
            (0x0C ≤ off.toNat ∧ off.toNat ≤ 0x0F) ∨ (0x20 ≤ off.toNat ∧ off.toNat ≤ 0x30))
        then Config.freeRead s.reads.length else hostByte s off)] }

/-- O9. Every offset reads the register of the map: single bytes, STATUS and CTRL bit by bit, little-endian and
index by index (20_memory.md R82, 20_memory.md R84, 10_state.md R43, 10_state.md R45, 10_state.md R46, 10_state.md
R49). -/
def Obligations.RegistersAreLittleEndian : Prop :=
  ∀ s : State,
    hostByte s 0x00 = s.lastCmd ∧
    (List.range 8).map (hostByte s 0x01).getLsbD = [s.status.busy, s.status.result, s.status.illegal, s.status.overrun,
      s.status.addrCrcErr, s.status.parasite, s.status.pullupOn, s.status.asExhausted] ∧
    (List.range 8).map (hostByte s 0x02).getLsbD
      = [s.ctrl.waitEn, s.ctrl.pollEn, s.ctrl.copyEn, false, false, false, false, false] ∧
    hostByte s 0x03 = s.arg ∧ hostByte s 0x04 = s.handlerId ∧
    hostByte s 0x05 = (match s.globalRes with | .r9 => 9 | .r10 => 10 | .r11 => 11 | .r12 => 12) ∧
    hostByte s 0x06 = s.deviceCount ∧ hostByte s 0x07 = s.resOut ∧ hostByte s 0x08 = s.alarmT ∧
    hostByte s 0x09 = s.crcAcc ∧
    hostByte s 0x0A = (match s.phase with | .idle => 0 | .requested => 1 | .waiting => 2 | .complete => 3) ∧
    hostByte s 0x0B = 0x00 ∧
    hostByte s 0x0C = s.tempFp.extractLsb' 0 8 ∧ hostByte s 0x0D = s.tempFp.extractLsb' 8 8 ∧
    hostByte s 0x0E = s.tempFp.extractLsb' 16 8 ∧ hostByte s 0x0F = s.tempFp.extractLsb' 24 8 ∧
    (∀ (i : Nat) (h : i < 8), hostByte s (BitVec.ofNat 6 (0x10 + i)) = s.addrIn[i] ∧
      hostByte s (BitVec.ofNat 6 (0x18 + i)) = s.addrCmp[i] ∧
      hostByte s (BitVec.ofNat 6 (0x20 + i)) = s.addrOut[i]) ∧
    (∀ (i : Nat) (h : i < 9), hostByte s (BitVec.ofNat 6 (0x28 + i)) = s.spBuf[i]) ∧
    (∀ off : BitVec 6, 0x31 ≤ off.toNat → hostByte s off = 0x00)

/-- O10. Every piece of state holds its reset value after reset (R371). -/
def Obligations.ResetValues : Prop :=
  State.reset.lastCmd = 0x00 ∧ statusByte State.reset.status = 0x20 ∧
  State.reset.status = ⟨false, false, false, false, false, true, false, false⟩ ∧
  ctrlByte State.reset.ctrl = 0x07 ∧ State.reset.arg = 0x00 ∧ State.reset.handlerId = 0x00 ∧
  resByte State.reset.globalRes = 12 ∧ State.reset.deviceCount = 0 ∧ State.reset.resOut = 0 ∧
  State.reset.alarmT = 0x00 ∧ State.reset.crcAcc = 0x00 ∧ State.reset.phase = .idle ∧
  State.reset.tempFp = 0 ∧ State.reset.addrIn = Vector.replicate 8 0 ∧ State.reset.addrCmp = Vector.replicate 8 0 ∧
  State.reset.addrOut = Vector.replicate 8 0 ∧ State.reset.spBuf = Vector.replicate 9 0 ∧
  State.reset.asAddr = Vector.replicate 8 0 ∧ State.reset.asJunction = -1 ∧
  State.reset.seq.cmd = none ∧ State.reset.seq.todo = [] ∧
  (List.range 64).map (fun n => hostByte State.reset (BitVec.ofNat 6 n))
    = [0x00, 0x20, 0x07, 0x00, 0x00, 0x0C] ++ List.replicate 58 0x00

/-- O11. The reset input puts the block into its reset state from any state, without an event; the rest stays (log
12) (70_reset_and_hazards.md R370, 70_reset_and_hazards.md R371, 70_reset_and_hazards.md R373). That params, clock,
env, reads, addrDraws and quantum stay is the model's choice (log 12), and so is reset as one turn (log 21). -/
def Obligations.ResetFromAnyState : Prop :=
  ∀ (s : State) (ts : List Turn), s.env.turns = .reset :: ts → ∃ t, step s = .next t ∧
    (t.lastCmd, t.status, t.ctrl, t.arg, t.handlerId, t.globalRes, t.deviceCount, t.resOut, t.alarmT, t.crcAcc, t.phase)
      = (State.reset.lastCmd, State.reset.status, State.reset.ctrl, State.reset.arg, State.reset.handlerId,
         State.reset.globalRes, State.reset.deviceCount, State.reset.resOut, State.reset.alarmT, State.reset.crcAcc,
         State.reset.phase) ∧
    (t.tempFp, t.addrIn, t.addrCmp, t.addrOut, t.spBuf, t.asAddr, t.asJunction, t.seq)
      = (State.reset.tempFp, State.reset.addrIn, State.reset.addrCmp, State.reset.addrOut, State.reset.spBuf,
         State.reset.asAddr, State.reset.asJunction, State.reset.seq) ∧
    t.trace = s.trace ∧ t.params = s.params ∧ t.clock = s.clock ∧ t.env = { s.env with turns := ts } ∧
    t.reads = s.reads ∧ t.addrDraws = s.addrDraws ∧ t.quantum = s.quantum

/-- O12. The state after reset is sound (10_state.md R49, 10_state.md R54, 10_state.md R56, 70_reset_and_hazards.md
R371). -/
def Obligations.ResetStateIsSound : Prop :=
  Sound State.reset

/-- O13. Every step from a sound state leads to a sound state (10_state.md R43, 10_state.md R49, 10_state.md R54,
10_state.md R56, 30_encoding.md R111, 43_conversion.md R261). -/
def Obligations.EveryStepKeepsSoundStates : Prop :=
  ∀ s : State, Sound s → ∃ t, step s = .next t ∧ Sound t

/-- O14. With no host access waiting, k steps are k times (quantum + 1) steps of the block, release and wait
included (30_encoding.md R111, 10_state.md R56, 20_memory.md R96, 20_memory.md R97). The quantum is the model's
choice (log 4), and so are a Delay's two steps (log 9, log 10). -/
def Obligations.StepsRunTheLines : Prop :=
  (∀ (k : Nat) (s : State), s.env.turns = [] →
    Host.Core.run Sys2Proof.core k s = .next (runBlock (k * (s.quantum + 1)) s)) ∧
  (∀ (s : State) (x : Line) (rest : List Line), s.seq.todo = x :: rest → busPrimitive x = true →
    s.status.pullupOn = true →
    tick s = { s with status.pullupOn := false, trace := s.trace ++ [.setPullup false] }) ∧
  (∀ (s : State) (us : Nat) (rest : List Line), s.seq.todo = .delay us :: rest → rest ≠ [] →
    tick s = { s with trace := s.trace ++ [.delay us], seq.todo := .waitUntil (s.clock + us) :: rest } ∧
    ∃ c q, s.clock + us ≤ c ∧
      tick (tick s) = { s with trace := s.trace ++ [.delay us], seq.todo := rest, clock := c, env.ticks := q })

/-- O15. A command that ends has the same effect whatever the quantum (30_encoding.md R111). The quantum is the
model's choice (log 4). -/
def Obligations.QuantumDoesNotMatter : Prop :=
  ∀ (i : Instr) (s t : State) (q : Nat), s.env.turns = [] → exec i s = .next t → t.status.busy = false →
    ∃ k u, exec i { s with quantum := q } = .next u ∧
      Host.Core.run Sys2Proof.core k u = .next { t with quantum := q }

/-- O16. No host access during a command changes what the command does (60_exceptions.md R332, 43_conversion.md
R269, 20_memory.md R86, 20_memory.md R101). -/
def Obligations.HostCannotReachTheCommand : Prop :=
  (∀ (s : State) (x : Turn) (ts : List Turn), s.status.busy = true → s.env.turns = x :: ts →
    (∃ off, x = .read off) ∨ (∃ off v, x = .write off v) →
    ∃ il ov rd, step s = .next (withOutside il ov ts rd s.quantum s)) ∧
  (∀ (n : Nat) (il ov : Bool) (ts : List Turn) (rd : List (BitVec 6 × Byte)) (q : Nat) (s : State),
    runBlock n (withOutside il ov ts rd q s) = withOutside il ov ts rd q (runBlock n s))

/-- O17. ILLEGAL and OVERRUN stay set until a W1C write or reset (10_state.md R43, 60_exceptions.md R331,
60_exceptions.md R332, 60_exceptions.md R337). -/
def Obligations.StickyBitsStay : Prop :=
  ∀ s t : State, step s = .next t →
    (s.status.illegal = true → t.status.illegal = true ∨ (∃ ts, s.env.turns = .reset :: ts) ∨
      ∃ v ts, s.env.turns = .write 0x01 v :: ts ∧ v.getLsbD 2 = true) ∧
    (s.status.overrun = true → t.status.overrun = true ∨ (∃ ts, s.env.turns = .reset :: ts) ∨
      ∃ v ts, s.env.turns = .write 0x01 v :: ts ∧ v.getLsbD 3 = true)

/-- O18. PULLUP_ON mirrors the pull-up requests, and no other bus primitive is performed while it is asserted
(10_state.md R55, 20_memory.md R95, 20_memory.md R97, 20_memory.md R88). -/
def Obligations.PullupIsMirroredAndReleased : Prop :=
  ∀ s t : State, step s = .next t → ∃ es, t.trace = s.trace ++ es ∧
    releasedFirst s.status.pullupOn es = true ∧
    ((∀ ts, s.env.turns ≠ .reset :: ts) → t.status.pullupOn = es.foldl pullupAfter s.status.pullupOn)

/-- O19. GLOBAL_RES, PARASITE and DEVICE_COUNT change only in INIT, SET_GRES and GET_COUNT, or at reset (10_state.md
R46, 10_state.md R47, 10_state.md R48, 20_memory.md R106). -/
def Obligations.OnlyRefreshersWriteTheSummaries : Prop :=
  ∀ s t : State, Sound s → step s = .next t → (∀ ts, s.env.turns ≠ .reset :: ts) →
    (t.globalRes ≠ s.globalRes → commandAtWork s ∈ [some .init, some .setGres]) ∧
    (t.status.parasite ≠ s.status.parasite → commandAtWork s = some .init) ∧
    (t.deviceCount ≠ s.deviceCount → commandAtWork s ∈ [some .init, some .getCount])

/-- O20. Each result register changes only in the commands that write it (10_state.md R35, 10_state.md R36,
10_state.md R37, 10_state.md R38, 10_state.md R39, 10_state.md R40). -/
def Obligations.OnlyTheirCommandsWriteResults : Prop :=
  ∀ s t : State, Sound s → step s = .next t → (∀ ts, s.env.turns ≠ .reset :: ts) →
    (t.addrOut ≠ s.addrOut → commandAtWork s ∈ [some .getAddr, some .alarmSearch, some .hasAlarmAny]) ∧
    (t.spBuf ≠ s.spBuf → commandAtWork s ∈ [some .readSp, some .isConnSp] ∨
      (s.status.busy = false ∧ ∃ off v ts, s.env.turns = .write off v :: ts ∧ 0x28 ≤ off.toNat ∧ off.toNat ≤ 0x30)) ∧
    (t.tempFp ≠ s.tempFp → commandAtWork s ∈ [some .calcTemp, some .getTemp, some .getTempIdx]) ∧
    (t.resOut ≠ s.resOut → commandAtWork s = some .getRes) ∧
    (t.alarmT ≠ s.alarmT → commandAtWork s ∈ [some .getTh, some .getTl]) ∧
    (t.crcAcc ≠ s.crcAcc → commandAtWork s ∈ [some .crcClr, some .crcPush])

/-- O21. The alarm cursor, ADDR_CRC_ERR and PHASE change only in their commands, PHASE only along R261 (10_state.md
R53, 10_state.md R54, 10_state.md R43, 10_state.md R49, 43_conversion.md R261). O49 to O51 say that a conversion
command does show each of these states, and when. -/
def Obligations.OnlyAlarmCommandsMoveTheCursor : Prop :=
  (∀ s t : State, Sound s → step s = .next t → (∀ ts, s.env.turns ≠ .reset :: ts) →
    (t.asAddr ≠ s.asAddr ∨ t.asJunction ≠ s.asJunction ∨ t.status.asExhausted ≠ s.status.asExhausted →
      commandAtWork s ∈ [some .asReset, some .alarmSearch, some .hasAlarmAny, some .processAlarms]) ∧
    (t.status.addrCrcErr ≠ s.status.addrCrcErr →
      commandAtWork s ∈ [some .alarmSearch, some .hasAlarmAny, some .processAlarms]) ∧
    (t.phase ≠ s.phase → commandAtWork s ∈ [some .reqTemps, some .reqTempAddr, some .reqTempIdx])) ∧
  (∀ s : State, Sound s → s.status.busy = false → s.phase = .idle) ∧
  (∀ s : State, Sound s → (tick s).phase = s.phase ∨ (s.phase, (tick s).phase) ∈
    [(Phase.idle, Phase.requested), (Phase.requested, Phase.waiting), (Phase.complete, Phase.idle)] ++
      if s.ctrl.waitEn then [(Phase.waiting, Phase.complete)] else [(Phase.waiting, Phase.idle)])

/-- O22. No command writes ARG, ADDR_IN, ADDR_CMP, HANDLER_ID, CTRL or a parameter (10_state.md R32, 10_state.md
R33, 10_state.md R34, 10_state.md R41, 10_state.md R45, 10_state.md R42, 00_scope.md R10). -/
def Obligations.CommandsKeepTheOperands : Prop :=
  ∀ s t : State, step s = .next t → t.params = s.params ∧
    ((∀ ts, s.env.turns ≠ .reset :: ts) → (∀ off v ts, s.env.turns ≠ .write off v :: ts) →
      t.arg = s.arg ∧ t.addrIn = s.addrIn ∧ t.addrCmp = s.addrCmp ∧ t.handlerId = s.handlerId ∧ t.ctrl = s.ctrl ∧
      t.lastCmd = s.lastCmd) ∧
    (∀ op ts, s.status.busy = false → s.env.turns = .write 0x00 op :: ts →
      t.arg = s.arg ∧ t.addrIn = s.addrIn ∧ t.addrCmp = s.addrCmp ∧ t.handlerId = s.handlerId ∧ t.ctrl = s.ctrl ∧
      t.lastCmd = op)

/-- O23. PHASE aside, the shared routines change no register but PULLUP_ON, and the alarm search only its cursor
besides (41_scratchpad.md R180, 41_scratchpad.md R181, 41_scratchpad.md R183, 41_scratchpad.md R184,
41_scratchpad.md R185, 40_crc_registry.md R145, 40_crc_registry.md R146, 43_conversion.md R267, 44_alarm.md R291).
The conversion functions pcConvTail, pcStartOne and pcStartAll leave out the rules' writes of PHASE
(43_conversion.md R261, R267), so this claims nothing of PHASE in a conversion; O49 to O51 do. -/
def Obligations.RoutinesTouchOnlyTheBus : Prop :=
  ∀ s : State,
    (∀ a, onlyTheBus s (pcReadPad a s) ∧ onlyTheBus s (pcReadPower a s) ∧ onlyTheBus s (pcGetRes a s) ∧
      onlyTheBus s (pcStartOne a s)) ∧
    (∀ a sp, onlyTheBus s (pcWritePad a sp s)) ∧
    (∀ a r, onlyTheBus s (pcSetRes a r s)) ∧
    (∀ idx, onlyTheBus s (pcGetAddr idx s).2) ∧
    (∀ fuel n m t, pcCount fuel n s = some (m, t) → onlyTheBus s t) ∧
    (∀ fuel v w t, pcSurvey fuel v s = some (w, t) → onlyTheBus s t) ∧
    (∀ r fuel b c t, pcSetAll r fuel b s = some (c, t) → onlyTheBus s t) ∧
    onlyTheBus s (pcStartAll s) ∧
    (∀ fuel d t, pcConvTail fuel d s = some t → onlyTheBus s t) ∧
    onlyTheBusAndCursor s (pcAlarmSearch s).2 ∧
    (∀ h fuel b c t, pcDrain h fuel b s = some (c, t) → onlyTheBusAndCursor s t)

/-- O24. NOP sets RESULT and does nothing else (R150). -/
def Obligations.NopSetsResult : Prop :=
  decode 0x00 = .ok .nop ∧ ∀ s : State, 0 < s.quantum → exec .nop s =
    .next { s with status.busy := false, status.result := true, seq := Micro.none }

/-- O25. CRC_CLR clears CRC_ACC, CRC_PUSH steps it with ARG (R152, R153). -/
def Obligations.CrcCommands : Prop :=
  decode 0x10 = .ok .crcClr ∧ decode 0x11 = .ok .crcPush ∧ ∀ s : State, 0 < s.quantum →
    exec .crcClr s = .next { s with
      crcAcc := 0x00, status.busy := false, status.result := true, seq := Micro.none } ∧
    exec .crcPush s = .next { s with
      crcAcc := crc8Step s.params.crcPolyR s.crcAcc s.arg
      status.busy := false
      status.result := decide (crc8Step s.params.crcPolyR s.crcAcc s.arg = 0x00)
      seq := Micro.none }

/-- O26. The CRC residue is zero, zeros give zero, one flipped bit is seen, and the check values (R142). -/
def Obligations.CrcConsequences : Prop :=
  (∀ m : List Byte, crc8 0x8C (m ++ [crc8 0x8C m]) = 0x00) ∧
  (∀ n : Nat, crc8 0x8C (List.replicate n 0x00) = 0x00) ∧
  addrCrcOk defaultParams (Vector.replicate 8 0x00) = true ∧ padCrcOk defaultParams (Vector.replicate 9 0x00) = true ∧
  crc8 0x8C (List.replicate 8 0xFF) = 0xC9 ∧ padCrcOk defaultParams (Vector.replicate 9 0xFF) = false ∧
  (∀ (m : List Byte) (k : Nat) (i : Nat) (h : k < m.length), m.length ≤ 8 → i < 8 →
    crc8 0x8C (m.set k (m[k] ^^^ (1#8 <<< i))) ≠ crc8 0x8C m) ∧
  (∀ (a : Addr) (k : Nat) (i : Nat) (h : k < 7), i < 8 → isValidAddr defaultParams a = true →
    isValidAddr defaultParams (a.set k (a[k] ^^^ (1#8 <<< i))) = false) ∧
  crc8 0x8C [0x31, 0x32, 0x33, 0x34, 0x35, 0x36, 0x37, 0x38, 0x39] = 0xA1

/-- O27. VALID_ADDR answers whether the CRC matches and the family is known (R154, R143). -/
def Obligations.ValidAddrChecksCrcAndFamily : Prop :=
  decode 0x18 = .ok .validAddr ∧ ∀ s : State, 0 < s.quantum → exec .validAddr s = .next { s with
      status.busy := false
      status.result := decide (
        crc8 s.params.crcPolyR
            [s.addrIn[0], s.addrIn[1], s.addrIn[2], s.addrIn[3], s.addrIn[4], s.addrIn[5], s.addrIn[6]] = s.addrIn[7] ∧
          s.addrIn[0] ∈ s.params.family.map Prod.fst)
      seq := Micro.none }

/-- O28. ADDR_EQ answers whether all eight bytes are equal (R155). -/
def Obligations.AddrEqCompares : Prop :=
  decode 0x19 = .ok .addrEq ∧ ∀ s : State, 0 < s.quantum → exec .addrEq s = .next { s with
      status.busy := false, status.result := decide (s.addrIn = s.addrCmp), seq := Micro.none }

/-- O29. GET_ADDR leaves the index-th address of the search, or fails (R156, R145). -/
def Obligations.GetAddrResult : Prop :=
  decode 0x1A = .ok .getAddr ∧ ∀ s : State, Roomy s → exec .getAddr s = .next (finishCommand
    (match pcGetAddr s.arg.toNat s with
      | (some a, t) => setResult true { t with addrOut := a }
      | (none, t) => setResult false
          { t with addrOut := Config.freeAddr s.addrDraws, addrDraws := s.addrDraws + 1 }))

/-- O30. GET_ADDR with enough valid addresses finds the indexed one; with too few or an invalid one it fails
(40_crc_registry.md R145, 40_crc_registry.md R156). -/
def Obligations.GetAddrFindsTheIndexed : Prop :=
  ∀ (s : State) (as : List Addr) (rest : List (Option Addr)), Roomy s →
    s.env.found.script = as.map some ++ none :: rest →
    ∃ t, exec .getAddr s = .next t ∧ t.status.busy = false ∧
      (∀ h : s.arg.toNat < as.length, (as.take (s.arg.toNat + 1)).all (isValidAddr s.params) = true →
        t.status.result = true ∧ t.addrOut = as[s.arg.toNat]) ∧
      ((as.length ≤ s.arg.toNat ∨ (as.take (s.arg.toNat + 1)).all (isValidAddr s.params) = false) →
        t.status.result = false)

/-- O31. GET_COUNT leaves the count of its search in DEVICE_COUNT (R157, R146). -/
def Obligations.GetCountResult : Prop :=
  decode 0x1B = .ok .getCount ∧ ∀ (s : State) (fuel n : Nat) (t : State),
    pcCount fuel 0 (perform .searchReset s) = some (n, t) → 4 * fuel + 2 ≤ s.quantum →
    exec .getCount s = .next (finishCommand (setResult true { t with deviceCount := BitVec.ofNat 8 n }))

/-- O32. GET_COUNT counts the valid addresses, saturating at 255 (40_crc_registry.md R146, 40_crc_registry.md R157,
10_state.md R48). -/
def Obligations.GetCountCountsTheValid : Prop :=
  ∀ (s : State) (as : List Addr) (rest : List (Option Addr)),
    s.env.found.script = as.map some ++ none :: rest → 4 * as.length + 6 ≤ s.quantum →
    ∃ t, exec .getCount s = .next t ∧ t.status.busy = false ∧ t.status.result = true ∧
      t.deviceCount = BitVec.ofNat 8 (min (as.countP (isValidAddr s.params)) 255) ∧ t.env.found.script = rest

/-- O33. GET_COUNT stays busy while its search goes on finding addresses (70_reset_and_hazards.md R389,
40_crc_registry.md R146, 30_encoding.md R111). -/
def Obligations.UnendingSearchKeepsBusy : Prop :=
  ∀ (s : State) (as : List Addr) (rest : List (Option Addr)),
    s.env.found.script = as.map some ++ rest → s.quantum < 2 * as.length →
    ∃ t, exec .getCount s = .next t ∧ t.status.busy = true ∧ t.deviceCount = s.deviceCount

/-- O34. INIT leaves the count, the parasite flag and the largest resolution of its survey (R151). -/
def Obligations.InitResult : Prop :=
  decode 0x01 = .ok .init ∧ ∀ (s : State) (fuel : Nat) (v : Survey) (t : State),
    pcSurvey fuel ⟨0, false, none⟩ (perform .searchReset s) = some (v, t) → 46 * fuel + 2 ≤ s.quantum →
    exec .init s = .next (finishCommand (setResult true (setParasite v.par
      { t with deviceCount := BitVec.ofNat 8 v.count, globalRes := v.maxres.getD s.globalRes })))

/-- O35. IS_CONN and IS_CONN_SP answer whether the pad's CRC is right (R158, R159, R144). -/
def Obligations.IsConnResults : Prop :=
  decode 0x1C = .ok .isConn ∧ decode 0x1D = .ok .isConnSp ∧ ∀ s : State, Roomy s →
    exec .isConn s = .next (finishCommand
      (setResult (crc8 s.params.crcPolyR ((padAnswer s).toList.take 8) == (padAnswer s)[8]) (pcReadPad s.addrIn s))) ∧
    exec .isConnSp s = .next (finishCommand
      (setResult (crc8 s.params.crcPolyR ((padAnswer s).toList.take 8) == (padAnswer s)[8])
        { pcReadPad s.addrIn s with spBuf := padAnswer s }))

/-- O36. READ_SP leaves the nine bytes read in SP_BUF (R190, R180). -/
def Obligations.ReadSpResult : Prop :=
  decode 0x20 = .ok .readSp ∧ ∀ s : State, Roomy s → exec .readSp s = .next { s with
      spBuf := padAnswer s
      status.busy := false
      status.result := true
      status.pullupOn := false
      trace := s.trace ++ ((if s.status.pullupOn then [.setPullup false] else [] : List Event) ++
        [.reset (presenceAnswer s), .select s.addrIn, .writeByte s.params.wire.readScratch,
          .readByte (padAnswer s)[0], .readByte (padAnswer s)[1], .readByte (padAnswer s)[2],
          .readByte (padAnswer s)[3], .readByte (padAnswer s)[4], .readByte (padAnswer s)[5],
          .readByte (padAnswer s)[6], .readByte (padAnswer s)[7], .readByte (padAnswer s)[8]])
      env.presence := restAnswers s.env.presence
      env.bytes := skipAnswers 9 s.env.bytes
      seq := Micro.none }

/-- O37. WRITE_SP sends three bytes and copies where it should (R191, R181). -/
def Obligations.WriteSpResult : Prop :=
  decode 0x21 = .ok .writeSp ∧ ∀ s : State, Roomy s →
    exec .writeSp s = .next (finishCommand (setResult true (pcWritePad s.addrIn s.spBuf s))) ∧
    (s.status.pullupOn = false →
      (pcWritePad s.addrIn s.spBuf s).trace = s.trace ++
        (([.reset (presenceAnswer s), .select s.addrIn, .writeByte s.params.wire.writeScratch, .writeByte s.spBuf[2],
          .writeByte s.spBuf[3], .writeByte s.spBuf[4]] : List Event) ++
         (if s.ctrl.copyEn && ((familyOf s.params s.addrIn[0]).map (·.hasEeprom)).getD false then
           ([.reset (peekAnswer Config.freePresence s.env.presence 1), .select s.addrIn,
             .writeByte s.params.wire.copyScratch] : List Event) ++
           (if s.status.parasite then [.setPullup true, .delay s.params.tCopy, .setPullup false] else [] : List Event)
         else [] : List Event)) ∧
      s.clock ≤ (pcWritePad s.addrIn s.spBuf s).clock ∧
      (wantsCopy s s.addrIn = true → s.status.parasite = true →
        s.clock + s.params.tCopy ≤ (pcWritePad s.addrIn s.spBuf s).clock))

/-- O38. GET_RES leaves the resolution, or the sentinel with RESULT 0; a byte means the one resolution whose mask it
is (R192, R183, R182). -/
def Obligations.GetResResult : Prop :=
  decode 0x22 = .ok .getRes ∧
  (∀ (p : Params) (c : Byte), resMaskOk p.resMask = true →
    (∀ r, resOf p c = some r ↔ c = perRes p.resMask r) ∧ ((∀ r, c ≠ perRes p.resMask r) → resOf p c = none)) ∧
  ∀ s : State, Roomy s → exec .getRes s = .next (finishCommand
      (match fixedRes s.params s.addrIn with
        | some r => setResult true { s with resOut := resByte r }
        | none =>
          if padCrcOk s.params (padAnswer s) then
            match resOf s.params (padAnswer s)[4] with
            | some r => setResult true { pcReadPad s.addrIn s with resOut := resByte r }
            | none => setResult false { pcReadPad s.addrIn s with resOut := s.params.resFail }
          else setResult false { pcReadPad s.addrIn s with resOut := s.params.resFail }))

/-- O39. SET_RES writes the clamped resolution and verifies it (R193, R184). -/
def Obligations.SetResResult : Prop :=
  decode 0x23 = .ok .setRes ∧ ∀ s : State, Roomy s →
    exec .setRes s = .next (finishCommand
      (match fixedRes s.params s.addrIn with
        | some _ => setResult true s
        | none =>
          if padCrcOk s.params (padAnswer s) then
            let t := pcWritePad s.addrIn ((padAnswer s).set 4 (perRes s.params.resMask (clampRes s.arg.toNat)))
              (pcReadPad s.addrIn s)
            setResult (padCrcOk s.params (padAnswer t) && resOf s.params (padAnswer t)[4] == some (clampRes s.arg.toNat))
              (pcReadPad s.addrIn t)
          else setResult false (pcReadPad s.addrIn s))) ∧
    (resBits (clampRes s.arg.toNat) : Int) = max 9 (min 12 (s.arg.toNat : Int))

/-- O40. SET_RES then GET_RES gives back the resolution set, or the fixed one (R200). -/
def Obligations.ResolutionRoundTrip : Prop :=
  ∀ s : State, Roomy s → resMaskOk s.params.resMask = true →
    (∀ (before after : Pad) (rest : List Byte), fixedRes s.params s.addrIn = none →
      padCrcOk s.params before = true → padCrcOk s.params after = true →
      after[4] = perRes s.params.resMask (clampRes s.arg.toNat) →
      s.env.bytes.script = before.toList ++ after.toList ++ after.toList ++ rest →
      ∃ t u, exec .setRes s = .next t ∧ t.status.busy = false ∧ t.status.result = true ∧
        exec .getRes t = .next u ∧ u.status.busy = false ∧ u.status.result = true ∧
        u.resOut = resByte (clampRes s.arg.toNat)) ∧
    (∀ r, fixedRes s.params s.addrIn = some r →
      ∃ t u, exec .setRes s = .next t ∧ t.status.busy = false ∧ t.status.result = true ∧
        exec .getRes t = .next u ∧ u.status.busy = false ∧ u.status.result = true ∧ u.resOut = resByte r ∧
        u.trace = s.trace)

/-- O41. SET_GRES sets the hint unconditionally and every valid device found (R194). -/
def Obligations.SetGresResult : Prop :=
  decode 0x24 = .ok .setGres ∧ ∀ (s : State) (fuel : Nat) (ok : Bool) (t : State),
    pcSetAll (clampRes s.arg.toNat) fuel true
      (perform .searchReset { s with globalRes := clampRes s.arg.toNat }) = some (ok, t) → 92 * fuel + 4 ≤ s.quantum →
    exec .setGres s = .next (finishCommand (setResult ok t)) ∧ t.globalRes = clampRes s.arg.toNat

/-- O42. READ_POWER answers 1 for a bit of 0, and PARASITE is not changed (R195, R185). -/
def Obligations.ReadPowerResult : Prop :=
  decode 0x25 = .ok .readPower ∧ ∀ s : State, Roomy s → exec .readPower s = .next { s with
      status.busy := false
      status.result := !bitAnswer s
      status.pullupOn := false
      trace := s.trace ++ ((if s.status.pullupOn then [.setPullup false] else [] : List Event) ++
        [.reset (presenceAnswer s), .select s.addrIn, .writeByte s.params.wire.readPower, .readBit (bitAnswer s)])
      env.presence := restAnswers s.env.presence
      env.bits := restAnswers s.env.bits
      seq := Micro.none }

/-- O43. GET_TH and GET_TL leave the threshold read, or the sentinel with RESULT 0 (R196, R197). -/
def Obligations.GetThresholdResults : Prop :=
  decode 0x26 = .ok .getTh ∧ decode 0x27 = .ok .getTl ∧ ∀ s : State, Roomy s →
    exec .getTh s = .next (finishCommand
      (if padCrcOk s.params (padAnswer s) then
        setResult true { pcReadPad s.addrIn s with alarmT := (padAnswer s)[2] }
      else setResult false { pcReadPad s.addrIn s with alarmT := s.params.alarmDisc })) ∧
    exec .getTl s = .next (finishCommand
      (if padCrcOk s.params (padAnswer s) then
        setResult true { pcReadPad s.addrIn s with alarmT := (padAnswer s)[3] }
      else setResult false { pcReadPad s.addrIn s with alarmT := s.params.alarmDisc }))

/-- O44. SET_TH and SET_TL write back the pad with the clamped threshold (R198, R199, R186). -/
def Obligations.SetThresholdResults : Prop :=
  decode 0x28 = .ok .setTh ∧ decode 0x29 = .ok .setTl ∧ ∀ s : State, Roomy s →
    exec .setTh s = .next (finishCommand
      (if padCrcOk s.params (padAnswer s) then
        setResult true (pcWritePad s.addrIn
          ((padAnswer s).set 2 (BitVec.ofInt 8 (max (-55) (min 125 s.arg.toInt)))) (pcReadPad s.addrIn s))
      else setResult false (pcReadPad s.addrIn s))) ∧
    exec .setTl s = .next (finishCommand
      (if padCrcOk s.params (padAnswer s) then
        setResult true (pcWritePad s.addrIn
          ((padAnswer s).set 3 (BitVec.ofInt 8 (max (-55) (min 125 s.arg.toInt)))) (pcReadPad s.addrIn s))
      else setResult false (pcReadPad s.addrIn s)))

/-- O45. Decode gives the sentinel for a failed or unknown pad, else the family's fixed-point value (R230, R231,
R232). -/
def Obligations.DecodeChecksInOrder : Prop :=
  ∀ (p : Params) (a : Addr) (sp : Pad),
    decodeTemp p a sp =
      (if sp = Vector.replicate 9 0xFF then p.discFp.toInt
      else if crc8 p.crcPolyR (sp.toList.take 8) ≠ sp[8] then p.discFp.toInt
      else match p.family.lookup a[0] with
        | none => p.discFp.toInt
        | some f =>
          match f.kind with
          | .legacy =>
            if sp[7] = 0x00 then (sp[1] ++ sp[0]).toInt * 64
            else ((sp[1] ++ sp[0]) &&& 0xFFFE#16).toInt * 64 - 32
              + (((sp[7].toNat : Int) - (sp[6].toNat : Int)) * 128).tdiv (sp[7].toNat : Int)
          | .standard =>
            match resOf p sp[4] with
            | none => p.discFp.toInt
            | some r =>
              ((sp[1] ++ sp[0]) &&& ((0xFFFF#16) <<< (12 - resBits r))).toInt * 2 ^ (7 - f.fracBits.val))

/-- O46. Decode stays in 32 bits, reads only the family code and the pad, and can collide with the sentinel (R233).
-/
def Obligations.DecodeProperties : Prop :=
  (∀ (p : Params) (a : Addr) (sp : Pad), p.discFp = defaultParams.discFp →
    -4194304 ≤ decodeTemp p a sp ∧ decodeTemp p a sp ≤ 4194304 ∧
    (BitVec.ofInt 32 (decodeTemp p a sp)).toInt = decodeTemp p a sp) ∧
  (∀ (p : Params) (a a' : Addr) (sp : Pad), a[0] = a'[0] → decodeTemp p a sp = decodeTemp p a' sp) ∧
  defaultParams.discFp.toInt < -55 * 128 ∧
  (∀ (p : Params) (a : Addr) (sp : Pad) (f : Family) (r : Resolution), p.discFp = defaultParams.discFp →
    familyOf p a[0] = some f → f.kind = .standard → f.fracBits = 4 → padCrcOk p sp = true → resOf p sp[4] = some r →
    sp[1] ++ sp[0] = 0xF810#16 → decodeTemp p a sp = p.discFp.toInt) ∧
  (∀ (p : Params) (a : Addr) (sp : Pad) (f : Family), p.discFp = defaultParams.discFp →
    familyOf p a[0] = some f → f.kind = .legacy → padCrcOk p sp = true →
    (if sp[7] = 0x00 then sp[1] ++ sp[0] = 0xFF02#16
      else (((sp[1] ++ sp[0]) &&& 0xFFFE#16).toInt * (64 : Int) - (32 : Int)
        + (((sp[7].toNat : Int) - (sp[6].toNat : Int)) * 128).tdiv (sp[7].toNat : Int) : Int) = -127 * 128) →
    decodeTemp p a sp = p.discFp.toInt) ∧
  padCrcOk defaultParams (Vector.replicate 9 0x00) = true ∧
  (∀ a : Addr, a[0] = 0x10 → decodeTemp defaultParams a (Vector.replicate 9 0x00) = 0) ∧
  (∀ a : Addr, a[0] ∈ [0x28#8, 0x22#8, 0x3B#8] →
    decodeTemp defaultParams a (Vector.replicate 9 0x00) = defaultParams.discFp.toInt)

/-- O47. CALC_TEMP decodes SP_BUF and GET_TEMP the pad it reads, for the family of ADDR_IN (R240, R241). -/
def Obligations.TemperatureOfAPad : Prop :=
  decode 0x30 = .ok .calcTemp ∧ decode 0x31 = .ok .getTemp ∧
  (∀ s : State, 0 < s.quantum → exec .calcTemp s = .next { s with
      tempFp := BitVec.ofInt 32 (decodeTemp s.params s.addrIn s.spBuf)
      status.busy := false
      status.result := decide (BitVec.ofInt 32 (decodeTemp s.params s.addrIn s.spBuf) ≠ s.params.discFp)
      seq := Micro.none }) ∧
  (∀ s : State, Roomy s → exec .getTemp s = .next (finishCommand
    (setResult (BitVec.ofInt 32 (decodeTemp s.params s.addrIn (padAnswer s)) != s.params.discFp)
      { pcReadPad s.addrIn s with tempFp := BitVec.ofInt 32 (decodeTemp s.params s.addrIn (padAnswer s)) })))

/-- O48. GET_TEMP_IDX looks the address up and leaves its temperature, or DISC_FP (R242). -/
def Obligations.GetTempIdxResult : Prop :=
  decode 0x32 = .ok .getTempIdx ∧ ∀ s : State, Roomy s → exec .getTempIdx s = .next (finishCommand
    (match pcGetAddr s.arg.toNat s with
      | (none, t) => setResult false { t with tempFp := s.params.discFp }
      | (some a, t) =>
        setResult (BitVec.ofInt 32 (decodeTemp s.params a (padAnswer t)) != s.params.discFp)
          { pcReadPad a t with tempFp := BitVec.ofInt 32 (decodeTemp s.params a (padAnswer t)) }))

/-- O49. REQ_TEMPS starts every device and waits by the policy in force; PHASE goes through the states of R261
(R270). The last part says which state of PHASE (43_conversion.md R261) stands at which point of the command; that a
command can be watched step by step is the model's quantum 0 (log 4). -/
def Obligations.ReqTempsResult : Prop :=
  decode 0x40 = .ok .reqTemps ∧ ∀ (s : State) (fuel : Nat) (t : State),
    pcConvTail fuel (tWaitAll s.params s.globalRes) (pcStartAll s) = some t →
    (4 * fuel + 32 ≤ s.quantum →
      exec .reqTemps s = .next (finishCommand (setResult true { t with phase := .idle }))) ∧
    ∃ u, exec .reqTemps { s with quantum := 0 } = .next u ∧ showsPhases u s.trace (pcStartAll s).trace t.trace

/-- O50. REQ_TEMP_ADDR fails fast on an invalid address, else starts the device and waits; PHASE goes through R261
(R271). The last part says which state of PHASE (43_conversion.md R261) stands at which point of the command; that a
command can be watched step by step is the model's quantum 0 (log 4). -/
def Obligations.ReqTempAddrResult : Prop :=
  decode 0x41 = .ok .reqTempAddr ∧
  (∀ s : State, 0 < s.quantum → isValidAddr s.params s.addrIn = false →
    exec .reqTempAddr s = .next { s with status.busy := false, status.result := false, seq := Micro.none }) ∧
  (∀ (s : State) (fuel : Nat) (t : State), isValidAddr s.params s.addrIn = true →
    pcConvTail fuel (tWaitDev s.params s.globalRes s.addrIn) (pcStartOne s.addrIn s) = some t →
    (4 * fuel + 32 ≤ s.quantum →
      exec .reqTempAddr s = .next (finishCommand (setResult true { t with phase := .idle }))) ∧
    ∃ u, exec .reqTempAddr { s with quantum := 0 } = .next u ∧
      showsPhases u s.trace (pcStartOne s.addrIn s).trace t.trace)

/-- O51. REQ_TEMP_IDX looks the address up, then starts the device and waits; PHASE goes through R261, or stays
(R272). The last part says which state of PHASE (43_conversion.md R261) stands at which point of the command; that a
command can be watched step by step is the model's quantum 0 (log 4). -/
def Obligations.ReqTempIdxResult : Prop :=
  decode 0x42 = .ok .reqTempIdx ∧
  (∀ (s u : State), pcGetAddr s.arg.toNat s = (none, u) →
    (Roomy s → exec .reqTempIdx s = .next (finishCommand (setResult false u))) ∧
    ∃ v, exec .reqTempIdx { s with quantum := 0 } = .next v ∧ ∀ k, (runBlock k v).phase = s.phase) ∧
  (∀ (s u : State) (a : Addr) (fuel : Nat) (t : State), pcGetAddr s.arg.toNat s = (some a, u) →
    pcConvTail fuel (tWaitDev s.params s.globalRes a) (pcStartOne a u) = some t →
    (4 * fuel + 2048 ≤ s.quantum →
      exec .reqTempIdx s = .next (finishCommand (setResult true { t with phase := .idle }))) ∧
    ∃ v, exec .reqTempIdx { s with quantum := 0 } = .next v ∧
      showsPhases v u.trace (pcStartOne a u).trace t.trace)

/-- O52. With the blocking policy each conversion command lasts its bound, the pull-up held under parasite power
(43_conversion.md R262, 43_conversion.md R263, 43_conversion.md R264, 43_conversion.md R268). -/
def Obligations.BlockingWaitLastsItsBound : Prop :=
  (∀ s : State, Roomy s → s.ctrl.waitEn = true → (s.ctrl.pollEn = false ∨ s.status.parasite = true) →
    (∃ t, exec .reqTemps s = .next t ∧ waitsOut (tWaitAll s.params s.globalRes)
      [.reset (presenceAnswer s), .writeByte s.params.wire.skipRom, .writeByte s.params.wire.convertT] s t) ∧
    (isValidAddr s.params s.addrIn = true →
      ∃ t, exec .reqTempAddr s = .next t ∧ waitsOut (tWaitDev s.params s.globalRes s.addrIn)
        [.reset (presenceAnswer s), .select s.addrIn, .writeByte s.params.wire.convertT] s t) ∧
    (∀ a u, pcGetAddr s.arg.toNat s = (some a, u) →
      ∃ t, exec .reqTempIdx s = .next t ∧ waitsOut (tWaitDev s.params s.globalRes a)
        [.reset (presenceAnswer u), .select a, .writeByte s.params.wire.convertT] u t)) ∧
  (∀ (p : Params) (r : Resolution), p.wellFormed = true →
    (∀ (a : Addr) (f : Family), (a[0], f) ∈ p.family → isCeil (perRes p.tConv r) f.convScale (tWaitDev p r a)) ∧
    (∃ e ∈ p.family, (∀ e' ∈ p.family, atMost e'.2.convScale e.2.convScale) ∧
      isCeil (perRes p.tConv r) e.2.convScale (tWaitAll p r))) ∧
  [Resolution.r9, .r10, .r11, .r12].map (tWaitAll defaultParams) = [93750, 187500, 375000, 750000]

/-- O53. With WAIT_EN 0 a conversion command ends at once and leaves the pull-up asserted under parasite power
(R266). -/
def Obligations.DisabledWaitLeavesThePullup : Prop :=
  (∀ s : State, Roomy s → s.ctrl.waitEn = false →
    (∃ t, exec .reqTemps s = .next t ∧ t.status.busy = false ∧ t.status.result = true ∧ t.phase = .idle ∧
      t.status.pullupOn = s.status.parasite ∧ t.clock = s.clock ∧
      t.trace = s.trace ++ ((if s.status.pullupOn then [.setPullup false] else [] : List Event) ++
        ([.reset (presenceAnswer s), .writeByte s.params.wire.skipRom, .writeByte s.params.wire.convertT] : List Event) ++
        (if s.status.parasite then [.setPullup true] else [] : List Event))) ∧
    (isValidAddr s.params s.addrIn = true →
      ∃ t, exec .reqTempAddr s = .next t ∧ t.status.busy = false ∧ t.status.result = true ∧ t.phase = .idle ∧
        t.status.pullupOn = s.status.parasite ∧ t.clock = s.clock ∧
        t.trace = s.trace ++ ((if s.status.pullupOn then [.setPullup false] else [] : List Event) ++
          ([.reset (presenceAnswer s), .select s.addrIn, .writeByte s.params.wire.convertT] : List Event) ++
          (if s.status.parasite then [.setPullup true] else [] : List Event)))) ∧
  (∀ (s : State) (fuel d : Nat), s.ctrl.waitEn = false →
    pcConvTail fuel d s = some (if s.status.parasite then busSetPullup true s else s)) ∧
  (∀ (s : State) (e : Event), s.status.pullupOn = true →
    (perform e s).trace = s.trace ++ [.setPullup false, e] ∧ (perform e s).status.pullupOn = false)

/-- O54. AS_RESET puts the cursor into its initial state (R300, R290). -/
def Obligations.AsResetResult : Prop :=
  decode 0x50 = .ok .asReset ∧ ∀ s : State, Roomy s → exec .asReset s = .next { s with
      asAddr := Vector.replicate 8 0x00
      asJunction := -1
      status.asExhausted := false
      status.busy := false
      status.result := true
      seq := Micro.none }

/-- O55. ALARM_SEARCH advances the cursor by one result (R301). -/
def Obligations.AlarmSearchResult : Prop :=
  decode 0x51 = .ok .alarmSearch ∧ ∀ s : State, Roomy s → exec .alarmSearch s = .next (finishCommand
    (match pcAlarmSearch s with
      | (some a, t) => setResult true (setCrcErr (crc8 s.params.crcPolyR (a.toList.take 7) != a[7]) { t with addrOut := a })
      | (none, t) => setResult false (setCrcErr false t)))

/-- O56. One call of the alarm search ends and performs at most 194 bus primitives (44_alarm.md R291, 44_alarm.md
R292). -/
def Obligations.AlarmSearchIsBounded : Prop :=
  ∀ s : State,
    (s.status.asExhausted = true → pcAlarmSearch s = (none, s)) ∧
    (s.status.asExhausted = false → ∃ es, (pcAlarmSearch s).2.trace = s.trace ++ (pendingRelease s ++ es) ∧
      es.countP isResetEvent = 1 ∧
      es.countP isWriteByteEvent ≤ 1 ∧
      es.countP isReadBitEvent ≤ 128 ∧
      es.countP isWriteBitEvent ≤ 64 ∧
      es.all (fun e => isResetEvent e || isWriteByteEvent e || isReadBitEvent e || isWriteBitEvent e) = true) ∧
    ((pcAlarmSearch s).1 = none → (pcAlarmSearch s).2.status.asExhausted = true) ∧
    (-1 ≤ s.asJunction ∧ s.asJunction ≤ 63 →
      -1 ≤ (pcAlarmSearch s).2.asJunction ∧ (pcAlarmSearch s).2.asJunction ≤ 63)

/-- O57. A full alarm scan of a fixed set of devices finds each once, in increasing order, then nothing (44_alarm.md
R292, 44_alarm.md R291, 20_memory.md R108). -/
def Obligations.AlarmScanVisitsEachDeviceOnce : Prop :=
  (∀ (s : State) (devs : List Addr) (more : Nat) (restP restB : List Bool), devs ≠ [] → devs.Pairwise precedes →
    s.env.presence.script = List.replicate devs.length true ++ restP →
    s.env.bits.script = devs.flatMap (slotAnswers devs) ++ restB →
    (alarmCalls (devs.length + more) (actAsReset s)).1 = devs.map some ++ List.replicate more none ∧
    (∀ k < devs.length, (alarmCalls k (actAsReset s)).2.status.asExhausted = false) ∧
    (alarmCalls devs.length (actAsReset s)).2.status.asExhausted = true ∧
    (alarmCalls (devs.length + more) (actAsReset s)).2 = (alarmCalls devs.length (actAsReset s)).2) ∧
  (∀ s : State, (presenceAnswer s = false ∨ (bitAnswer s = true ∧ bitAnswer (pcReadBit s) = true)) →
    (pcAlarmSearch (actAsReset s)).1 = none ∧ (pcAlarmSearch (actAsReset s)).2.status.asExhausted = true)

/-- O58. HAS_ALARM_ADDR compares the temperature read with the thresholds, strictly, on the floor in whole degrees
(R302, R293). -/
def Obligations.HasAlarmAddrResult : Prop :=
  decode 0x52 = .ok .hasAlarmAddr ∧
  (∀ s : State, Roomy s → exec .hasAlarmAddr s = .next (finishCommand
    (setResult (alarmOf s.params s.addrIn (padAnswer s)) (pcReadPad s.addrIn s)))) ∧
  (∀ (p : Params) (a : Addr) (sp : Pad), alarmOf p a sp = true ↔
    crc8 p.crcPolyR (sp.toList.take 8) = sp[8] ∧ decodeTemp p a sp ≠ p.discFp.toInt ∧
    (128 * (sp[2].toInt + 1) ≤ decodeTemp p a sp ∨ decodeTemp p a sp < 128 * sp[3].toInt))

/-- O59. HAS_ALARM_ANY resets the cursor and makes one call of the search (R303). -/
def Obligations.HasAlarmAnyResult : Prop :=
  decode 0x53 = .ok .hasAlarmAny ∧ ∀ s : State, Roomy s → exec .hasAlarmAny s = .next (finishCommand
    (match pcAlarmSearch { s with
        asAddr := Vector.replicate 8 0x00, asJunction := -1, status.asExhausted := false } with
      | (some a, t) => setResult true (setCrcErr (crc8 s.params.crcPolyR (a.toList.take 7) != a[7]) { t with addrOut := a })
      | (none, t) => setResult false (setCrcErr false t)))

/-- O60. PROCESS_ALARMS drains the search and emits one callback per address with a right CRC (R304). -/
def Obligations.ProcessAlarmsResult : Prop :=
  decode 0x54 = .ok .processAlarms ∧ ∀ (s : State) (fuel : Nat) (err : Bool) (t : State),
    pcDrain s.handlerId fuel false { s with
      asAddr := Vector.replicate 8 0x00, asJunction := -1, status.asExhausted := false } = some (err, t) →
    652 * fuel + 2 ≤ s.quantum →
    exec .processAlarms s = .next (finishCommand (setResult true (setCrcErr err t)))

end
end

