-- ==== Sys2Proof/Laws/Sequencer.lean ====
section
/-! SUPPORT. What one line of a running command does, said once for each line and each program point: a running state
is written `beginCommand i l code t`, the state `t` with the command `i`, its local variables `l` and the lines `code`
still to run. A whole line is one or two steps of the block (`wholeLine_steps`). -/

namespace Sys2Proof.Machine

/-! ### Running -/

@[simp] theorem settle_cons (i : Instr) (l : Locals) (x : Line) (k : List Line) (t : State) :
    settle (beginCommand i l (x :: k) t) = beginCommand i l (x :: k) t := rfl

@[simp] theorem settle_nil (i : Instr) (l : Locals) (t : State) :
    settle (beginCommand i l [] t) = finishCommand t := rfl

@[simp] theorem runBlock_finish (n : Nat) (t : State) : runBlock n (finishCommand t) = finishCommand t := by
  cases n <;> rfl

@[simp] theorem push_begin (ls : List Line) (i : Instr) (l : Locals) (k : List Line) (t : State) :
    push ls (beginCommand i l k t) = beginCommand i l (ls ++ k) t := rfl

@[simp] theorem finishCommand_begin (i : Instr) (l : Locals) (k : List Line) (t : State) :
    finishCommand (beginCommand i l k t) = finishCommand t := rfl

@[simp] theorem runBlock_idle (n : Nat) (s : State) (h : s.status.busy = false) : runBlock n s = s := by
  cases n <;> simp [runBlock, h]

theorem runBlock_succ_busy (n : Nat) (s : State) (h : s.status.busy = true) :
    runBlock (n + 1) s = runBlock n (tick s) := by simp [runBlock, h]

/-- A command that has ended stays ended: more lines allowed change nothing. -/
theorem runBlock_more (m n : Nat) (s : State) (h : (runBlock m s).status.busy = false) :
    runBlock (m + n) s = runBlock m s := by
  induction m generalizing s with
  | zero => simpa [runBlock] using runBlock_idle n s h
  | succ m ih =>
    rw [Nat.succ_add]
    by_cases hb : s.status.busy = true
    · rw [runBlock_succ_busy _ _ hb, runBlock_succ_busy _ _ hb]
      exact ih (tick s) (by rw [← runBlock_succ_busy _ _ hb]; exact h)
    · simp [runBlock_idle _ s (by simpa using hb)]

/-- Where a command's lines end within `n`, they end the same way within any larger number. -/
theorem runBlock_of_le {m n : Nat} (hmn : m ≤ n) {s t : State} (h : runBlock m s = finishCommand t) :
    runBlock n s = finishCommand t := by
  obtain ⟨d, rfl⟩ := Nat.exists_eq_add_of_le hmn
  rw [runBlock_more m d s (by rw [h]; rfl), h]

/-- Running in two bursts is running in one (log 4). -/
theorem runBlock_add (m n : Nat) (s : State) : runBlock (m + n) s = runBlock n (runBlock m s) := by
  induction m generalizing s with
  | zero => simp [runBlock]
  | succ m ih =>
    rw [Nat.succ_add]
    by_cases hb : s.status.busy = true
    · rw [runBlock_succ_busy _ _ hb, runBlock_succ_busy _ _ hb, ih]
    · simp [runBlock_idle _ s (by simpa using hb)]

/-- A meaning that ends within its quantum answers the finished state. -/
theorem runCommand_done {m : Nat} {i : Instr} {l : Locals} {code : List Line} {s t : State} (hm : m ≤ s.quantum)
    (h : runBlock m (beginCommand i l code s) = finishCommand t) :
    runCommand i l code s = .next (finishCommand t) :=
  congrArg Host.Outcome.next (runBlock_of_le hm h)

/-- With no step of the block left to the step that takes the request, the command has begun and is BUSY (R111). -/
theorem runCommand_begins {i : Instr} {l : Locals} {code : List Line} {s : State} (h : s.quantum = 0) :
    runCommand i l code s = .next (beginCommand i l code s) := by
  simp [runCommand, h, runBlock]

/-! ### One step of the block -/

theorem tick_none {s : State} (h : s.seq.todo = []) : tick s = finishCommand s := by
  unfold tick; rw [h]

/-- The pending release is a step of its own (R97), and leaves the lines still to run as they are. -/
theorem tick_release {s : State} {x : Line} {rest : List Line} (h : s.seq.todo = x :: rest)
    (hr : releaseDue x s = true) : tick s = busSetPullup false s := by
  unfold tick; rw [h]; exact if_pos hr

theorem tick_line {s : State} {x : Line} {rest : List Line} (h : s.seq.todo = x :: rest)
    (hr : ¬ releaseDue x s = true) : tick s = settle (runLine x { s with seq.todo := rest }) := by
  unfold tick; rw [h]; exact if_neg hr

/-! ### The fields of a running state -/

variable (i : Instr) (l : Locals) (k : List Line) (t : State)

@[simp] theorem begin_lastCmd : (beginCommand i l k t).lastCmd = t.lastCmd := rfl
@[simp] theorem begin_ctrl : (beginCommand i l k t).ctrl = t.ctrl := rfl
@[simp] theorem begin_arg : (beginCommand i l k t).arg = t.arg := rfl
@[simp] theorem begin_handlerId : (beginCommand i l k t).handlerId = t.handlerId := rfl
@[simp] theorem begin_globalRes : (beginCommand i l k t).globalRes = t.globalRes := rfl
@[simp] theorem begin_deviceCount : (beginCommand i l k t).deviceCount = t.deviceCount := rfl
@[simp] theorem begin_resOut : (beginCommand i l k t).resOut = t.resOut := rfl
@[simp] theorem begin_alarmT : (beginCommand i l k t).alarmT = t.alarmT := rfl
@[simp] theorem begin_crcAcc : (beginCommand i l k t).crcAcc = t.crcAcc := rfl
@[simp] theorem begin_phase : (beginCommand i l k t).phase = t.phase := rfl
@[simp] theorem begin_tempFp : (beginCommand i l k t).tempFp = t.tempFp := rfl
@[simp] theorem begin_addrIn : (beginCommand i l k t).addrIn = t.addrIn := rfl
@[simp] theorem begin_addrCmp : (beginCommand i l k t).addrCmp = t.addrCmp := rfl
@[simp] theorem begin_addrOut : (beginCommand i l k t).addrOut = t.addrOut := rfl
@[simp] theorem begin_spBuf : (beginCommand i l k t).spBuf = t.spBuf := rfl
@[simp] theorem begin_asAddr : (beginCommand i l k t).asAddr = t.asAddr := rfl
@[simp] theorem begin_asJunction : (beginCommand i l k t).asJunction = t.asJunction := rfl
@[simp] theorem begin_params : (beginCommand i l k t).params = t.params := rfl
@[simp] theorem begin_env : (beginCommand i l k t).env = t.env := rfl
@[simp] theorem begin_trace : (beginCommand i l k t).trace = t.trace := rfl
@[simp] theorem begin_reads : (beginCommand i l k t).reads = t.reads := rfl
@[simp] theorem begin_clock : (beginCommand i l k t).clock = t.clock := rfl
@[simp] theorem begin_addrDraws : (beginCommand i l k t).addrDraws = t.addrDraws := rfl
@[simp] theorem begin_quantum : (beginCommand i l k t).quantum = t.quantum := rfl
@[simp] theorem begin_result : (beginCommand i l k t).status.result = t.status.result := rfl
@[simp] theorem begin_illegal : (beginCommand i l k t).status.illegal = t.status.illegal := rfl
@[simp] theorem begin_overrun : (beginCommand i l k t).status.overrun = t.status.overrun := rfl
@[simp] theorem begin_addrCrcErr : (beginCommand i l k t).status.addrCrcErr = t.status.addrCrcErr := rfl
@[simp] theorem begin_parasite : (beginCommand i l k t).status.parasite = t.status.parasite := rfl
@[simp] theorem begin_pullupOn : (beginCommand i l k t).status.pullupOn = t.status.pullupOn := rfl
@[simp] theorem begin_asExhausted : (beginCommand i l k t).status.asExhausted = t.status.asExhausted := rfl
@[simp] theorem begin_busy : (beginCommand i l k t).status.busy = true := rfl
@[simp] theorem begin_loc : (beginCommand i l k t).seq.loc = l := rfl
@[simp] theorem begin_todo : (beginCommand i l k t).seq.todo = k := rfl
@[simp] theorem begin_cmd : (beginCommand i l k t).seq.cmd = some i := rfl
@[simp] theorem begin_readClock : readClock (beginCommand i l k t) = beginCommand i l k (readClock t) := rfl
@[simp] theorem begin_setResult (v : Bool) :
    setResult v (beginCommand i l k t) = beginCommand i l k (setResult v t) := rfl
@[simp] theorem begin_setCrcErr (v : Bool) :
    setCrcErr v (beginCommand i l k t) = beginCommand i l k (setCrcErr v t) := rfl
@[simp] theorem begin_setExhausted (v : Bool) :
    setExhausted v (beginCommand i l k t) = beginCommand i l k (setExhausted v t) := rfl
@[simp] theorem begin_setParasite (v : Bool) :
    setParasite v (beginCommand i l k t) = beginCommand i l k (setParasite v t) := rfl

/-! ### Whole lines (R88 to R99) -/

/-- A line with all it takes: the pending release before a primitive (R97), and a delay up to its end (R96). -/
def wholeLine : Line → State → State
  | .delay us, s => delayFor us s
  | x, s => runLine x (if releaseDue x s then busSetPullup false s else s)

theorem wholeLine_eq {x : Line} (h : ∀ us, x ≠ .delay us) (s : State) :
    wholeLine x s = runLine x (if releaseDue x s then busSetPullup false s else s) := by
  cases x <;> first
    | rfl
    | exact absurd rfl (h _)

theorem endDelay_startDelay (us : Nat) :
    endDelay (t.clock + us) (beginCommand i l k { t with trace := t.trace ++ [.delay us] })
      = beginCommand i l k (delayFor us t) := by
  simp [endDelay, beginCommand, delayFor, emit, tickAnswer]

omit k in
/-- A whole line takes one or two steps of the block, and as many whatever follows it. -/
theorem wholeLine_steps (x : Line) : ∃ d ≤ 2, ∀ n k,
    runBlock (n + d) (beginCommand i l (x :: k) t) = runBlock n (settle (wholeLine x (beginCommand i l k t))) := by
  by_cases hr : busPrimitive x && t.status.pullupOn
  · refine ⟨2, le_rfl, fun n k => ?_⟩
    have first : tick (beginCommand i l (x :: k) t) = beginCommand i l (x :: k) (busSetPullup false t) := tick_release rfl hr
    have second : tick (beginCommand i l (x :: k) (busSetPullup false t))
        = settle (runLine x (beginCommand i l k (busSetPullup false t))) :=
      tick_line rfl (by simp [releaseDue, beginCommand, busSetPullup, emit])
    have whole : wholeLine x (beginCommand i l k t) = runLine x (beginCommand i l k (busSetPullup false t)) := by
      rw [wholeLine_eq (fun us h => by simp [h, busPrimitive] at hr)]
      exact congrArg (runLine x) (if_pos hr)
    rw [show n + 2 = (n + 1) + 1 from rfl, runBlock_succ_busy _ _ rfl, first, runBlock_succ_busy _ _ rfl, second, whole]
  · have first (k : List Line) : tick (beginCommand i l (x :: k) t) = settle (runLine x (beginCommand i l k t)) :=
      tick_line rfl hr
    by_cases hd : ∃ us, x = .delay us
    · obtain ⟨us, rfl⟩ := hd
      refine ⟨2, le_rfl, fun n k => ?_⟩
      have second : tick (beginCommand i l (.waitUntil (t.clock + us) :: k) { t with trace := t.trace ++ [.delay us] })
          = settle (beginCommand i l k (delayFor us t)) := by
        rw [← endDelay_startDelay]
        rfl
      rw [show n + 2 = (n + 1) + 1 from rfl, runBlock_succ_busy _ _ rfl, first]
      exact (runBlock_succ_busy n _ rfl).trans (congrArg _ second)
    · refine ⟨1, by omega, fun n k => ?_⟩
      have whole : wholeLine x (beginCommand i l k t) = runLine x (beginCommand i l k t) := by
        rw [wholeLine_eq (fun us h => hd ⟨us, h⟩)]
        exact congrArg (runLine x) (if_neg hr)
      rw [runBlock_succ_busy _ _ rfl, first, whole]

theorem released_eq (s : State) : (if s.status.pullupOn then busSetPullup false s else s)
    = { s with status.pullupOn := false, trace := s.trace ++ pendingRelease s } := by
  unfold pendingRelease busSetPullup emit
  cases h : s.status.pullupOn
  · cases s with
    | mk _ st => cases st; simp_all
  · simp

/-- A whole primitive is its own effect on the released state. -/
theorem wholeLine_released {x : Line} (h : busPrimitive x = true) (s : State) :
    wholeLine x s = runLine x { s with status.pullupOn := false, trace := s.trace ++ pendingRelease s } := by
  rw [wholeLine_eq (fun us e => by simp [e, busPrimitive] at h), releaseDue, h, Bool.true_and, released_eq]

@[simp] theorem line_reset : wholeLine .reset (beginCommand i l k t)
    = beginCommand i { l with present := presenceAnswer t } k (pcReset t) := by
  rw [wholeLine_released rfl]
  simp only [runLine, busReset, emit, List.append_assoc]
  rfl

@[simp] theorem line_select (a : Addr) : wholeLine (.select a) (beginCommand i l k t)
    = beginCommand i l k (perform (.select a) t) := by
  rw [wholeLine_released rfl]
  simp only [runLine, busSelect, emit, List.append_assoc]
  rfl

@[simp] theorem line_writeByte (b : Byte) : wholeLine (.writeByte b) (beginCommand i l k t)
    = beginCommand i l k (perform (.writeByte b) t) := by
  rw [wholeLine_released rfl]
  simp only [runLine, busWriteByte, emit, List.append_assoc]
  rfl

@[simp] theorem line_writeBit (v : Bool) : wholeLine (.writeBit v) (beginCommand i l k t)
    = beginCommand i l k (perform (.writeBit v) t) := by
  rw [wholeLine_released rfl]
  simp only [runLine, busWriteBit, emit, List.append_assoc]
  rfl

@[simp] theorem line_searchReset : wholeLine .searchReset (beginCommand i l k t)
    = beginCommand i l k (perform .searchReset t) := by
  rw [wholeLine_released rfl]
  simp only [runLine, busSearchReset, emit, List.append_assoc]
  rfl

@[simp] theorem line_readBit_b : wholeLine (.readBit .b) (beginCommand i l k t)
    = beginCommand i { l with b := bitAnswer t } k (pcReadBit t) := by
  rw [wholeLine_released rfl]
  simp only [runLine, busReadBit, emit, List.append_assoc]
  rfl

@[simp] theorem line_readBit_nb : wholeLine (.readBit .nb) (beginCommand i l k t)
    = beginCommand i { l with nb := bitAnswer t } k (pcReadBit t) := by
  rw [wholeLine_released rfl]
  simp only [runLine, busReadBit, emit, List.append_assoc]
  rfl

@[simp] theorem line_searchNext : wholeLine .searchNext (beginCommand i l k t)
    = beginCommand i { l with found := foundAnswer t } k (pcSearchNext t) := by
  rw [wholeLine_released rfl]
  simp only [runLine, busSearchNext, emit, List.append_assoc]
  rfl

@[simp] theorem line_setPullup (on : Bool) : wholeLine (.setPullup on) (beginCommand i l k t)
    = beginCommand i l k (busSetPullup on t) := rfl

@[simp] theorem line_delay (us : Nat) : wholeLine (.delay us) (beginCommand i l k t)
    = beginCommand i l k (delayFor us t) := rfl

@[simp] theorem line_callback (h : Byte) (a : Addr) : wholeLine (.callback h a) (beginCommand i l k t)
    = beginCommand i l k (emitCallback h a t) := rfl

/-- `Bus.ReadByte()` (R92). -/
theorem line_readByte (j : Nat) : wholeLine (.readByte j) (beginCommand i l k t)
    = beginCommand i { l with sp := l.sp.setIfInBounds j (byteAnswer t) } k
        { perform (.readByte (byteAnswer t)) t with env.bytes := restAnswers t.env.bytes } := by
  rw [wholeLine_released rfl]
  simp only [runLine, busReadByte, emit, List.append_assoc]
  rfl

@[simp] theorem line_act (x : Act) (s : State) : wholeLine (.act x) s = runAct x s := rfl

/-! ### Running lines -/

/-- The lines `ls` of a running command take the state `t` to `t'` and the local variables `l` to `l'`, within `m` whole
lines, each of at most two steps of the block, whatever follows. -/
def Runs (i : Instr) (m : Nat) (ls : List Line) (l : Locals) (t : State) (l' : Locals) (t' : State) : Prop :=
  ∃ d ≤ 2 * m, ∀ n k, runBlock (n + d) (beginCommand i l (ls ++ k) t) = runBlock n (settle (beginCommand i l' k t'))

theorem Runs.mono {i : Instr} {m m' : Nat} {ls : List Line} {l l' : Locals} {t t' : State} (h : m ≤ m')
    (r : Runs i m ls l t l' t') : Runs i m' ls l t l' t' := by
  obtain ⟨d, hd, e⟩ := r
  exact ⟨d, hd.trans (by omega), e⟩

/-- One line that puts none in front. -/
theorem Runs.one {i : Instr} {x : Line} {l l' : Locals} {t t' : State}
    (e : ∀ k, wholeLine x (beginCommand i l k t) = beginCommand i l' k t') : Runs i 1 [x] l t l' t' := by
  obtain ⟨d, hd, h⟩ := wholeLine_steps i l t x
  exact ⟨d, hd, fun n k => by rw [List.singleton_append, h, e]⟩

/-- One line, then the lines it puts in front. -/
theorem Runs.line {i : Instr} {m : Nat} {x : Line} {ls : List Line} {l l' l'' : Locals} {t t' t'' : State}
    (e : ∀ k, wholeLine x (beginCommand i l k t) = beginCommand i l' (ls ++ k) t')
    (r : Runs i m ls l' t' l'' t'') (hne : ls ≠ []) : Runs i (m + 1) [x] l t l'' t'' := by
  obtain ⟨c, hc, h⟩ := wholeLine_steps i l t x
  obtain ⟨d, hd, r⟩ := r
  refine ⟨d + c, by omega, fun n k => ?_⟩
  obtain ⟨y, ys, rfl⟩ := List.exists_cons_of_ne_nil hne
  rw [← Nat.add_assoc, List.singleton_append, h, e, ← r, List.cons_append, settle_cons]

/-- One line that only puts others in front. -/
theorem Runs.pushes {i : Instr} {m : Nat} {x : Line} {ls : List Line} {l l'' : Locals} {t t'' : State}
    (e : ∀ k, wholeLine x (beginCommand i l k t) = push ls (beginCommand i l k t))
    (r : Runs i m ls l t l'' t'') (hne : ls ≠ []) : Runs i (m + 1) [x] l t l'' t'' :=
  Runs.line (fun k => by rw [e, push_begin]) r hne

/-- Lines one after the other. -/
theorem Runs.append {i : Instr} {m m' : Nat} {ls ls' : List Line} {l l' l'' : Locals} {t t' t'' : State}
    (r : Runs i m ls l t l' t') (r' : Runs i m' ls' l' t' l'' t'') (hne : ls' ≠ []) :
    Runs i (m + m') (ls ++ ls') l t l'' t'' := by
  obtain ⟨d, hd, r⟩ := r
  obtain ⟨d', hd', r'⟩ := r'
  refine ⟨d' + d, by omega, fun n k => ?_⟩
  obtain ⟨y, ys, rfl⟩ := List.exists_cons_of_ne_nil hne
  rw [← Nat.add_assoc, List.append_assoc, r, ← r', List.cons_append, settle_cons]

theorem Runs.cons {i : Instr} {m m' : Nat} {x : Line} {ls' : List Line} {l l' l'' : Locals} {t t' t'' : State}
    (r : Runs i m [x] l t l' t') (r' : Runs i m' ls' l' t' l'' t'') (hne : ls' ≠ []) :
    Runs i (m + m') (x :: ls') l t l'' t'' := r.append r' hne

/-- One line in front of others, its effect written out. -/
theorem Runs.next {i : Instr} {m : Nat} {x y : Line} {ls : List Line} {l l' l'' : Locals} {t t' t'' : State}
    (e : ∀ k, wholeLine x (beginCommand i l k t) = beginCommand i l' k t')
    (r : Runs i m (y :: ls) l' t' l'' t'') : Runs i (m + 1) (x :: y :: ls) l t l'' t'' :=
  Nat.add_comm 1 m ▸ (Runs.one e).cons r (by simp)

/-- A meaning whose whole lines run to `t'` within the quantum answers the finished `t'`. -/
theorem Runs.done {i : Instr} {m : Nat} {ls : List Line} {l l' : Locals} {s t' : State}
    (r : Runs i m ls l s l' t') (hm : 2 * m ≤ s.quantum) : runCommand i l ls s = .next (finishCommand t') := by
  obtain ⟨d, hd, r⟩ := r
  refine runCommand_done (hd.trans hm) ?_
  simpa using r 0 []

/-- A command that is a single program point is done in one step of the block. -/
theorem runCommand_act {i : Instr} {l l' : Locals} {x : Act} {s t' : State}
    (e : ∀ k, runAct x (beginCommand i l k s) = beginCommand i l' k t') (hq : 0 < s.quantum) :
    runCommand i l [.act x] s = .next (finishCommand t') :=
  runCommand_done (m := 1) hq (congrArg settle (e []))

/-! ### Where lines take `PHASE` -/

@[simp] theorem phaseAfter_setPhase (w : Bool) (p q : Phase) :
    phaseAfter w p (.act (.setPhase q)) = if phaseMove w p q then some q else none := rfl
@[simp] theorem phaseAfter_convTail (w : Bool) (p : Phase) (d : Nat) :
    phaseAfter w p (.act (.convTail d)) = if p = .requested then some .idle else none := rfl
@[simp] theorem phaseAfter_convWaiting (w : Bool) (p : Phase) (d : Nat) :
    phaseAfter w p (.act (.convWaiting d)) = if p = .requested then some .idle else none := rfl
@[simp] theorem phaseAfter_reqAddr (w : Bool) (p : Phase) (a : Addr) :
    phaseAfter w p (.act (.reqAddr a)) = if p = .idle then some .idle else none := rfl
@[simp] theorem phaseAfter_reqIdx (w : Bool) (p : Phase) :
    phaseAfter w p (.act .reqIdx) = if p = .idle then some .idle else none := rfl

@[simp] theorem phasePath_nil (w : Bool) (p : Phase) : phasePath w p [] = some p := rfl

theorem phasePath_cons (w : Bool) (p : Phase) (x : Line) (rest : List Line) :
    phasePath w p (x :: rest) = (phaseAfter w p x).bind (fun q => phasePath w q rest) := rfl

/-- The path of lines one after the other. -/
theorem phasePath_append (w : Bool) (ls rest : List Line) (p : Phase) :
    phasePath w p (ls ++ rest) = (phasePath w p ls).bind (fun q => phasePath w q rest) := by
  induction ls generalizing p with
  | nil => rfl
  | cons x ls ih => simp only [List.cons_append, phasePath_cons, Option.bind_assoc, ih]

end Sys2Proof.Machine
end

