-- ==== Sys2Proof/Laws/Frames.lean ====
section
/-! SUPPORT. No line of a command reads or writes what is outside the command (Safety.withOutside). -/

namespace Sys2Proof.Machine

section

variable (il ov : Bool) (tu : List Turn) (rd : List (BitVec 6 × Byte)) (q : Nat) (s : State)

@[simp] theorem withOutside_seq : (withOutside il ov tu rd q s).seq = s.seq := rfl
@[simp] theorem withOutside_params : (withOutside il ov tu rd q s).params = s.params := rfl
@[simp] theorem withOutside_ctrl : (withOutside il ov tu rd q s).ctrl = s.ctrl := rfl
@[simp] theorem withOutside_clock : (withOutside il ov tu rd q s).clock = s.clock := rfl
@[simp] theorem withOutside_busy : (withOutside il ov tu rd q s).status.busy = s.status.busy := rfl
@[simp] theorem withOutside_parasite : (withOutside il ov tu rd q s).status.parasite = s.status.parasite := rfl
@[simp] theorem withOutside_pullupOn : (withOutside il ov tu rd q s).status.pullupOn = s.status.pullupOn := rfl
@[simp] theorem withOutside_asExhausted :
    (withOutside il ov tu rd q s).status.asExhausted = s.status.asExhausted := rfl
@[simp] theorem withOutside_readClock :
    readClock (withOutside il ov tu rd q s) = withOutside il ov tu rd q (readClock s) := rfl

end

theorem runAct_outside (x : Act) (il ov : Bool) (tu : List Turn) (rd : List (BitVec 6 × Byte)) (q : Nat)
    (s : State) : runAct x (withOutside il ov tu rd q s) = withOutside il ov tu rd q (runAct x s) := by
  cases x <;> simp only [runAct] <;> first
    | rfl
    | (simp only [actInitFound, actGetAddrFound, actGetAddrOut, actCountFound, actGetRes, actSetRes, actSetResPad,
        actGresFound, actGetThOut, actGetTlOut, actSetThPad, actSetTlPad, actTempIdx, actReqAddr, actReqIdx,
        actConvWaiting, actWaitConv, actPollCheck, actWaitEnd, actAlarmStart, actAlarmPresence, actAlarmBit,
        actAlarmNext, actAlarmOut, alarmReport, actHasAnyOut, actProcFound, withOutside_seq, withOutside_params,
        withOutside_ctrl, withOutside_parasite, withOutside_pullupOn, withOutside_asExhausted, withOutside_readClock,
        withOutside_clock]
       try simp only [apply_ite (withOutside il ov tu rd q)]
       first
         | rfl
         | (split <;> first
             | rfl
             | (simp only [apply_ite (withOutside il ov tu rd q)]; rfl)
             | (split <;> simp only [*, if_true, if_false, Bool.false_eq_true] <;> rfl)))

theorem runLine_outside (x : Line) (il ov : Bool) (tu : List Turn) (rd : List (BitVec 6 × Byte)) (q : Nat)
    (s : State) : runLine x (withOutside il ov tu rd q s) = withOutside il ov tu rd q (runLine x s) := by
  cases x with
  | act x => exact runAct_outside x il ov tu rd q s
  | readBit slot => cases slot <;> rfl
  | _ => rfl

theorem settle_outside (il ov : Bool) (tu : List Turn) (rd : List (BitVec 6 × Byte)) (q : Nat) (s : State) :
    settle (withOutside il ov tu rd q s) = withOutside il ov tu rd q (settle s) := by
  unfold settle; rw [withOutside_seq]; split <;> rfl

theorem tick_outside (il ov : Bool) (tu : List Turn) (rd : List (BitVec 6 × Byte)) (q : Nat) (s : State) :
    tick (withOutside il ov tu rd q s) = withOutside il ov tu rd q (tick s) := by
  cases h : s.seq.todo with
  | nil => rw [tick_none h, tick_none (s := withOutside il ov tu rd q s) h]; rfl
  | cons x rest =>
    by_cases hr : releaseDue x s = true
    · rw [tick_release h hr, tick_release (s := withOutside il ov tu rd q s) h hr]; rfl
    · rw [tick_line h hr, tick_line (s := withOutside il ov tu rd q s) h hr, ← settle_outside, ← runLine_outside]; rfl

end Sys2Proof.Machine
end

