-- ==== Sys2Proof/Laws/State.lean ====
section
/-! SUPPORT. What each named update of the state leaves in each field: one lemma per field per update. -/

namespace Sys2Proof.Machine

variable (s : State)


/-! ### setResult -/

@[simp] theorem setResult_lastCmd (v : Bool) : (setResult v s).lastCmd = s.lastCmd := rfl
@[simp] theorem setResult_ctrl (v : Bool) : (setResult v s).ctrl = s.ctrl := rfl
@[simp] theorem setResult_arg (v : Bool) : (setResult v s).arg = s.arg := rfl
@[simp] theorem setResult_handlerId (v : Bool) : (setResult v s).handlerId = s.handlerId := rfl
@[simp] theorem setResult_globalRes (v : Bool) : (setResult v s).globalRes = s.globalRes := rfl
@[simp] theorem setResult_deviceCount (v : Bool) : (setResult v s).deviceCount = s.deviceCount := rfl
@[simp] theorem setResult_resOut (v : Bool) : (setResult v s).resOut = s.resOut := rfl
@[simp] theorem setResult_alarmT (v : Bool) : (setResult v s).alarmT = s.alarmT := rfl
@[simp] theorem setResult_crcAcc (v : Bool) : (setResult v s).crcAcc = s.crcAcc := rfl
@[simp] theorem setResult_phase (v : Bool) : (setResult v s).phase = s.phase := rfl
@[simp] theorem setResult_tempFp (v : Bool) : (setResult v s).tempFp = s.tempFp := rfl
@[simp] theorem setResult_addrIn (v : Bool) : (setResult v s).addrIn = s.addrIn := rfl
@[simp] theorem setResult_addrCmp (v : Bool) : (setResult v s).addrCmp = s.addrCmp := rfl
@[simp] theorem setResult_addrOut (v : Bool) : (setResult v s).addrOut = s.addrOut := rfl
@[simp] theorem setResult_spBuf (v : Bool) : (setResult v s).spBuf = s.spBuf := rfl
@[simp] theorem setResult_asAddr (v : Bool) : (setResult v s).asAddr = s.asAddr := rfl
@[simp] theorem setResult_asJunction (v : Bool) : (setResult v s).asJunction = s.asJunction := rfl
@[simp] theorem setResult_seq (v : Bool) : (setResult v s).seq = s.seq := rfl
@[simp] theorem setResult_params (v : Bool) : (setResult v s).params = s.params := rfl
@[simp] theorem setResult_env (v : Bool) : (setResult v s).env = s.env := rfl
@[simp] theorem setResult_trace (v : Bool) : (setResult v s).trace = s.trace := rfl
@[simp] theorem setResult_reads (v : Bool) : (setResult v s).reads = s.reads := rfl
@[simp] theorem setResult_clock (v : Bool) : (setResult v s).clock = s.clock := rfl
@[simp] theorem setResult_addrDraws (v : Bool) : (setResult v s).addrDraws = s.addrDraws := rfl
@[simp] theorem setResult_quantum (v : Bool) : (setResult v s).quantum = s.quantum := rfl
@[simp] theorem setResult_busy (v : Bool) : (setResult v s).status.busy = s.status.busy := rfl
@[simp] theorem setResult_result (v : Bool) : (setResult v s).status.result = v := rfl
@[simp] theorem setResult_illegal (v : Bool) : (setResult v s).status.illegal = s.status.illegal := rfl
@[simp] theorem setResult_overrun (v : Bool) : (setResult v s).status.overrun = s.status.overrun := rfl
@[simp] theorem setResult_addrCrcErr (v : Bool) : (setResult v s).status.addrCrcErr = s.status.addrCrcErr := rfl
@[simp] theorem setResult_parasite (v : Bool) : (setResult v s).status.parasite = s.status.parasite := rfl
@[simp] theorem setResult_pullupOn (v : Bool) : (setResult v s).status.pullupOn = s.status.pullupOn := rfl
@[simp] theorem setResult_asExhausted (v : Bool) : (setResult v s).status.asExhausted = s.status.asExhausted := rfl

/-! ### setCrcErr -/

@[simp] theorem setCrcErr_lastCmd (v : Bool) : (setCrcErr v s).lastCmd = s.lastCmd := rfl
@[simp] theorem setCrcErr_ctrl (v : Bool) : (setCrcErr v s).ctrl = s.ctrl := rfl
@[simp] theorem setCrcErr_arg (v : Bool) : (setCrcErr v s).arg = s.arg := rfl
@[simp] theorem setCrcErr_handlerId (v : Bool) : (setCrcErr v s).handlerId = s.handlerId := rfl
@[simp] theorem setCrcErr_globalRes (v : Bool) : (setCrcErr v s).globalRes = s.globalRes := rfl
@[simp] theorem setCrcErr_deviceCount (v : Bool) : (setCrcErr v s).deviceCount = s.deviceCount := rfl
@[simp] theorem setCrcErr_resOut (v : Bool) : (setCrcErr v s).resOut = s.resOut := rfl
@[simp] theorem setCrcErr_alarmT (v : Bool) : (setCrcErr v s).alarmT = s.alarmT := rfl
@[simp] theorem setCrcErr_crcAcc (v : Bool) : (setCrcErr v s).crcAcc = s.crcAcc := rfl
@[simp] theorem setCrcErr_phase (v : Bool) : (setCrcErr v s).phase = s.phase := rfl
@[simp] theorem setCrcErr_tempFp (v : Bool) : (setCrcErr v s).tempFp = s.tempFp := rfl
@[simp] theorem setCrcErr_addrIn (v : Bool) : (setCrcErr v s).addrIn = s.addrIn := rfl
@[simp] theorem setCrcErr_addrCmp (v : Bool) : (setCrcErr v s).addrCmp = s.addrCmp := rfl
@[simp] theorem setCrcErr_addrOut (v : Bool) : (setCrcErr v s).addrOut = s.addrOut := rfl
@[simp] theorem setCrcErr_spBuf (v : Bool) : (setCrcErr v s).spBuf = s.spBuf := rfl
@[simp] theorem setCrcErr_asAddr (v : Bool) : (setCrcErr v s).asAddr = s.asAddr := rfl
@[simp] theorem setCrcErr_asJunction (v : Bool) : (setCrcErr v s).asJunction = s.asJunction := rfl
@[simp] theorem setCrcErr_seq (v : Bool) : (setCrcErr v s).seq = s.seq := rfl
@[simp] theorem setCrcErr_params (v : Bool) : (setCrcErr v s).params = s.params := rfl
@[simp] theorem setCrcErr_env (v : Bool) : (setCrcErr v s).env = s.env := rfl
@[simp] theorem setCrcErr_trace (v : Bool) : (setCrcErr v s).trace = s.trace := rfl
@[simp] theorem setCrcErr_reads (v : Bool) : (setCrcErr v s).reads = s.reads := rfl
@[simp] theorem setCrcErr_clock (v : Bool) : (setCrcErr v s).clock = s.clock := rfl
@[simp] theorem setCrcErr_addrDraws (v : Bool) : (setCrcErr v s).addrDraws = s.addrDraws := rfl
@[simp] theorem setCrcErr_quantum (v : Bool) : (setCrcErr v s).quantum = s.quantum := rfl
@[simp] theorem setCrcErr_busy (v : Bool) : (setCrcErr v s).status.busy = s.status.busy := rfl
@[simp] theorem setCrcErr_result (v : Bool) : (setCrcErr v s).status.result = s.status.result := rfl
@[simp] theorem setCrcErr_illegal (v : Bool) : (setCrcErr v s).status.illegal = s.status.illegal := rfl
@[simp] theorem setCrcErr_overrun (v : Bool) : (setCrcErr v s).status.overrun = s.status.overrun := rfl
@[simp] theorem setCrcErr_addrCrcErr (v : Bool) : (setCrcErr v s).status.addrCrcErr = v := rfl
@[simp] theorem setCrcErr_parasite (v : Bool) : (setCrcErr v s).status.parasite = s.status.parasite := rfl
@[simp] theorem setCrcErr_pullupOn (v : Bool) : (setCrcErr v s).status.pullupOn = s.status.pullupOn := rfl
@[simp] theorem setCrcErr_asExhausted (v : Bool) : (setCrcErr v s).status.asExhausted = s.status.asExhausted := rfl

/-! ### setExhausted -/

@[simp] theorem setExhausted_lastCmd (v : Bool) : (setExhausted v s).lastCmd = s.lastCmd := rfl
@[simp] theorem setExhausted_ctrl (v : Bool) : (setExhausted v s).ctrl = s.ctrl := rfl
@[simp] theorem setExhausted_arg (v : Bool) : (setExhausted v s).arg = s.arg := rfl
@[simp] theorem setExhausted_handlerId (v : Bool) : (setExhausted v s).handlerId = s.handlerId := rfl
@[simp] theorem setExhausted_globalRes (v : Bool) : (setExhausted v s).globalRes = s.globalRes := rfl
@[simp] theorem setExhausted_deviceCount (v : Bool) : (setExhausted v s).deviceCount = s.deviceCount := rfl
@[simp] theorem setExhausted_resOut (v : Bool) : (setExhausted v s).resOut = s.resOut := rfl
@[simp] theorem setExhausted_alarmT (v : Bool) : (setExhausted v s).alarmT = s.alarmT := rfl
@[simp] theorem setExhausted_crcAcc (v : Bool) : (setExhausted v s).crcAcc = s.crcAcc := rfl
@[simp] theorem setExhausted_phase (v : Bool) : (setExhausted v s).phase = s.phase := rfl
@[simp] theorem setExhausted_tempFp (v : Bool) : (setExhausted v s).tempFp = s.tempFp := rfl
@[simp] theorem setExhausted_addrIn (v : Bool) : (setExhausted v s).addrIn = s.addrIn := rfl
@[simp] theorem setExhausted_addrCmp (v : Bool) : (setExhausted v s).addrCmp = s.addrCmp := rfl
@[simp] theorem setExhausted_addrOut (v : Bool) : (setExhausted v s).addrOut = s.addrOut := rfl
@[simp] theorem setExhausted_spBuf (v : Bool) : (setExhausted v s).spBuf = s.spBuf := rfl
@[simp] theorem setExhausted_asAddr (v : Bool) : (setExhausted v s).asAddr = s.asAddr := rfl
@[simp] theorem setExhausted_asJunction (v : Bool) : (setExhausted v s).asJunction = s.asJunction := rfl
@[simp] theorem setExhausted_seq (v : Bool) : (setExhausted v s).seq = s.seq := rfl
@[simp] theorem setExhausted_params (v : Bool) : (setExhausted v s).params = s.params := rfl
@[simp] theorem setExhausted_env (v : Bool) : (setExhausted v s).env = s.env := rfl
@[simp] theorem setExhausted_trace (v : Bool) : (setExhausted v s).trace = s.trace := rfl
@[simp] theorem setExhausted_reads (v : Bool) : (setExhausted v s).reads = s.reads := rfl
@[simp] theorem setExhausted_clock (v : Bool) : (setExhausted v s).clock = s.clock := rfl
@[simp] theorem setExhausted_addrDraws (v : Bool) : (setExhausted v s).addrDraws = s.addrDraws := rfl
@[simp] theorem setExhausted_quantum (v : Bool) : (setExhausted v s).quantum = s.quantum := rfl
@[simp] theorem setExhausted_busy (v : Bool) : (setExhausted v s).status.busy = s.status.busy := rfl
@[simp] theorem setExhausted_result (v : Bool) : (setExhausted v s).status.result = s.status.result := rfl
@[simp] theorem setExhausted_illegal (v : Bool) : (setExhausted v s).status.illegal = s.status.illegal := rfl
@[simp] theorem setExhausted_overrun (v : Bool) : (setExhausted v s).status.overrun = s.status.overrun := rfl
@[simp] theorem setExhausted_addrCrcErr (v : Bool) : (setExhausted v s).status.addrCrcErr = s.status.addrCrcErr := rfl
@[simp] theorem setExhausted_parasite (v : Bool) : (setExhausted v s).status.parasite = s.status.parasite := rfl
@[simp] theorem setExhausted_pullupOn (v : Bool) : (setExhausted v s).status.pullupOn = s.status.pullupOn := rfl
@[simp] theorem setExhausted_asExhausted (v : Bool) : (setExhausted v s).status.asExhausted = v := rfl

/-! ### setParasite -/

@[simp] theorem setParasite_lastCmd (v : Bool) : (setParasite v s).lastCmd = s.lastCmd := rfl
@[simp] theorem setParasite_ctrl (v : Bool) : (setParasite v s).ctrl = s.ctrl := rfl
@[simp] theorem setParasite_arg (v : Bool) : (setParasite v s).arg = s.arg := rfl
@[simp] theorem setParasite_handlerId (v : Bool) : (setParasite v s).handlerId = s.handlerId := rfl
@[simp] theorem setParasite_globalRes (v : Bool) : (setParasite v s).globalRes = s.globalRes := rfl
@[simp] theorem setParasite_deviceCount (v : Bool) : (setParasite v s).deviceCount = s.deviceCount := rfl
@[simp] theorem setParasite_resOut (v : Bool) : (setParasite v s).resOut = s.resOut := rfl
@[simp] theorem setParasite_alarmT (v : Bool) : (setParasite v s).alarmT = s.alarmT := rfl
@[simp] theorem setParasite_crcAcc (v : Bool) : (setParasite v s).crcAcc = s.crcAcc := rfl
@[simp] theorem setParasite_phase (v : Bool) : (setParasite v s).phase = s.phase := rfl
@[simp] theorem setParasite_tempFp (v : Bool) : (setParasite v s).tempFp = s.tempFp := rfl
@[simp] theorem setParasite_addrIn (v : Bool) : (setParasite v s).addrIn = s.addrIn := rfl
@[simp] theorem setParasite_addrCmp (v : Bool) : (setParasite v s).addrCmp = s.addrCmp := rfl
@[simp] theorem setParasite_addrOut (v : Bool) : (setParasite v s).addrOut = s.addrOut := rfl
@[simp] theorem setParasite_spBuf (v : Bool) : (setParasite v s).spBuf = s.spBuf := rfl
@[simp] theorem setParasite_asAddr (v : Bool) : (setParasite v s).asAddr = s.asAddr := rfl
@[simp] theorem setParasite_asJunction (v : Bool) : (setParasite v s).asJunction = s.asJunction := rfl
@[simp] theorem setParasite_seq (v : Bool) : (setParasite v s).seq = s.seq := rfl
@[simp] theorem setParasite_params (v : Bool) : (setParasite v s).params = s.params := rfl
@[simp] theorem setParasite_env (v : Bool) : (setParasite v s).env = s.env := rfl
@[simp] theorem setParasite_trace (v : Bool) : (setParasite v s).trace = s.trace := rfl
@[simp] theorem setParasite_reads (v : Bool) : (setParasite v s).reads = s.reads := rfl
@[simp] theorem setParasite_clock (v : Bool) : (setParasite v s).clock = s.clock := rfl
@[simp] theorem setParasite_addrDraws (v : Bool) : (setParasite v s).addrDraws = s.addrDraws := rfl
@[simp] theorem setParasite_quantum (v : Bool) : (setParasite v s).quantum = s.quantum := rfl
@[simp] theorem setParasite_busy (v : Bool) : (setParasite v s).status.busy = s.status.busy := rfl
@[simp] theorem setParasite_result (v : Bool) : (setParasite v s).status.result = s.status.result := rfl
@[simp] theorem setParasite_illegal (v : Bool) : (setParasite v s).status.illegal = s.status.illegal := rfl
@[simp] theorem setParasite_overrun (v : Bool) : (setParasite v s).status.overrun = s.status.overrun := rfl
@[simp] theorem setParasite_addrCrcErr (v : Bool) : (setParasite v s).status.addrCrcErr = s.status.addrCrcErr := rfl
@[simp] theorem setParasite_parasite (v : Bool) : (setParasite v s).status.parasite = v := rfl
@[simp] theorem setParasite_pullupOn (v : Bool) : (setParasite v s).status.pullupOn = s.status.pullupOn := rfl
@[simp] theorem setParasite_asExhausted (v : Bool) : (setParasite v s).status.asExhausted = s.status.asExhausted := rfl

/-! ### emit -/

@[simp] theorem emit_lastCmd (e : Event) : (emit e s).lastCmd = s.lastCmd := rfl
@[simp] theorem emit_ctrl (e : Event) : (emit e s).ctrl = s.ctrl := rfl
@[simp] theorem emit_arg (e : Event) : (emit e s).arg = s.arg := rfl
@[simp] theorem emit_handlerId (e : Event) : (emit e s).handlerId = s.handlerId := rfl
@[simp] theorem emit_globalRes (e : Event) : (emit e s).globalRes = s.globalRes := rfl
@[simp] theorem emit_deviceCount (e : Event) : (emit e s).deviceCount = s.deviceCount := rfl
@[simp] theorem emit_resOut (e : Event) : (emit e s).resOut = s.resOut := rfl
@[simp] theorem emit_alarmT (e : Event) : (emit e s).alarmT = s.alarmT := rfl
@[simp] theorem emit_crcAcc (e : Event) : (emit e s).crcAcc = s.crcAcc := rfl
@[simp] theorem emit_phase (e : Event) : (emit e s).phase = s.phase := rfl
@[simp] theorem emit_tempFp (e : Event) : (emit e s).tempFp = s.tempFp := rfl
@[simp] theorem emit_addrIn (e : Event) : (emit e s).addrIn = s.addrIn := rfl
@[simp] theorem emit_addrCmp (e : Event) : (emit e s).addrCmp = s.addrCmp := rfl
@[simp] theorem emit_addrOut (e : Event) : (emit e s).addrOut = s.addrOut := rfl
@[simp] theorem emit_spBuf (e : Event) : (emit e s).spBuf = s.spBuf := rfl
@[simp] theorem emit_asAddr (e : Event) : (emit e s).asAddr = s.asAddr := rfl
@[simp] theorem emit_asJunction (e : Event) : (emit e s).asJunction = s.asJunction := rfl
@[simp] theorem emit_seq (e : Event) : (emit e s).seq = s.seq := rfl
@[simp] theorem emit_params (e : Event) : (emit e s).params = s.params := rfl
@[simp] theorem emit_env (e : Event) : (emit e s).env = s.env := rfl
@[simp] theorem emit_trace (e : Event) : (emit e s).trace = s.trace ++ [e] := rfl
@[simp] theorem emit_reads (e : Event) : (emit e s).reads = s.reads := rfl
@[simp] theorem emit_clock (e : Event) : (emit e s).clock = s.clock := rfl
@[simp] theorem emit_addrDraws (e : Event) : (emit e s).addrDraws = s.addrDraws := rfl
@[simp] theorem emit_quantum (e : Event) : (emit e s).quantum = s.quantum := rfl
@[simp] theorem emit_busy (e : Event) : (emit e s).status.busy = s.status.busy := rfl
@[simp] theorem emit_result (e : Event) : (emit e s).status.result = s.status.result := rfl
@[simp] theorem emit_illegal (e : Event) : (emit e s).status.illegal = s.status.illegal := rfl
@[simp] theorem emit_overrun (e : Event) : (emit e s).status.overrun = s.status.overrun := rfl
@[simp] theorem emit_addrCrcErr (e : Event) : (emit e s).status.addrCrcErr = s.status.addrCrcErr := rfl
@[simp] theorem emit_parasite (e : Event) : (emit e s).status.parasite = s.status.parasite := rfl
@[simp] theorem emit_pullupOn (e : Event) : (emit e s).status.pullupOn = s.status.pullupOn := rfl
@[simp] theorem emit_asExhausted (e : Event) : (emit e s).status.asExhausted = s.status.asExhausted := rfl

/-! ### busSetPullup -/

@[simp] theorem busSetPullup_lastCmd (on : Bool) : (busSetPullup on s).lastCmd = s.lastCmd := rfl
@[simp] theorem busSetPullup_ctrl (on : Bool) : (busSetPullup on s).ctrl = s.ctrl := rfl
@[simp] theorem busSetPullup_arg (on : Bool) : (busSetPullup on s).arg = s.arg := rfl
@[simp] theorem busSetPullup_handlerId (on : Bool) : (busSetPullup on s).handlerId = s.handlerId := rfl
@[simp] theorem busSetPullup_globalRes (on : Bool) : (busSetPullup on s).globalRes = s.globalRes := rfl
@[simp] theorem busSetPullup_deviceCount (on : Bool) : (busSetPullup on s).deviceCount = s.deviceCount := rfl
@[simp] theorem busSetPullup_resOut (on : Bool) : (busSetPullup on s).resOut = s.resOut := rfl
@[simp] theorem busSetPullup_alarmT (on : Bool) : (busSetPullup on s).alarmT = s.alarmT := rfl
@[simp] theorem busSetPullup_crcAcc (on : Bool) : (busSetPullup on s).crcAcc = s.crcAcc := rfl
@[simp] theorem busSetPullup_phase (on : Bool) : (busSetPullup on s).phase = s.phase := rfl
@[simp] theorem busSetPullup_tempFp (on : Bool) : (busSetPullup on s).tempFp = s.tempFp := rfl
@[simp] theorem busSetPullup_addrIn (on : Bool) : (busSetPullup on s).addrIn = s.addrIn := rfl
@[simp] theorem busSetPullup_addrCmp (on : Bool) : (busSetPullup on s).addrCmp = s.addrCmp := rfl
@[simp] theorem busSetPullup_addrOut (on : Bool) : (busSetPullup on s).addrOut = s.addrOut := rfl
@[simp] theorem busSetPullup_spBuf (on : Bool) : (busSetPullup on s).spBuf = s.spBuf := rfl
@[simp] theorem busSetPullup_asAddr (on : Bool) : (busSetPullup on s).asAddr = s.asAddr := rfl
@[simp] theorem busSetPullup_asJunction (on : Bool) : (busSetPullup on s).asJunction = s.asJunction := rfl
@[simp] theorem busSetPullup_seq (on : Bool) : (busSetPullup on s).seq = s.seq := rfl
@[simp] theorem busSetPullup_params (on : Bool) : (busSetPullup on s).params = s.params := rfl
@[simp] theorem busSetPullup_env (on : Bool) : (busSetPullup on s).env = s.env := rfl
@[simp] theorem busSetPullup_trace (on : Bool) : (busSetPullup on s).trace = s.trace ++ [.setPullup on] := rfl
@[simp] theorem busSetPullup_reads (on : Bool) : (busSetPullup on s).reads = s.reads := rfl
@[simp] theorem busSetPullup_clock (on : Bool) : (busSetPullup on s).clock = s.clock := rfl
@[simp] theorem busSetPullup_addrDraws (on : Bool) : (busSetPullup on s).addrDraws = s.addrDraws := rfl
@[simp] theorem busSetPullup_quantum (on : Bool) : (busSetPullup on s).quantum = s.quantum := rfl
@[simp] theorem busSetPullup_busy (on : Bool) : (busSetPullup on s).status.busy = s.status.busy := rfl
@[simp] theorem busSetPullup_result (on : Bool) : (busSetPullup on s).status.result = s.status.result := rfl
@[simp] theorem busSetPullup_illegal (on : Bool) : (busSetPullup on s).status.illegal = s.status.illegal := rfl
@[simp] theorem busSetPullup_overrun (on : Bool) : (busSetPullup on s).status.overrun = s.status.overrun := rfl
@[simp] theorem busSetPullup_addrCrcErr (on : Bool) : (busSetPullup on s).status.addrCrcErr = s.status.addrCrcErr := rfl
@[simp] theorem busSetPullup_parasite (on : Bool) : (busSetPullup on s).status.parasite = s.status.parasite := rfl
@[simp] theorem busSetPullup_pullupOn (on : Bool) : (busSetPullup on s).status.pullupOn = on := rfl
@[simp] theorem busSetPullup_asExhausted (on : Bool) : (busSetPullup on s).status.asExhausted = s.status.asExhausted := rfl

/-! ### startDelay -/

@[simp] theorem startDelay_lastCmd (us : Nat) : (startDelay us s).lastCmd = s.lastCmd := rfl
@[simp] theorem startDelay_ctrl (us : Nat) : (startDelay us s).ctrl = s.ctrl := rfl
@[simp] theorem startDelay_arg (us : Nat) : (startDelay us s).arg = s.arg := rfl
@[simp] theorem startDelay_handlerId (us : Nat) : (startDelay us s).handlerId = s.handlerId := rfl
@[simp] theorem startDelay_globalRes (us : Nat) : (startDelay us s).globalRes = s.globalRes := rfl
@[simp] theorem startDelay_deviceCount (us : Nat) : (startDelay us s).deviceCount = s.deviceCount := rfl
@[simp] theorem startDelay_resOut (us : Nat) : (startDelay us s).resOut = s.resOut := rfl
@[simp] theorem startDelay_alarmT (us : Nat) : (startDelay us s).alarmT = s.alarmT := rfl
@[simp] theorem startDelay_crcAcc (us : Nat) : (startDelay us s).crcAcc = s.crcAcc := rfl
@[simp] theorem startDelay_phase (us : Nat) : (startDelay us s).phase = s.phase := rfl
@[simp] theorem startDelay_tempFp (us : Nat) : (startDelay us s).tempFp = s.tempFp := rfl
@[simp] theorem startDelay_addrIn (us : Nat) : (startDelay us s).addrIn = s.addrIn := rfl
@[simp] theorem startDelay_addrCmp (us : Nat) : (startDelay us s).addrCmp = s.addrCmp := rfl
@[simp] theorem startDelay_addrOut (us : Nat) : (startDelay us s).addrOut = s.addrOut := rfl
@[simp] theorem startDelay_spBuf (us : Nat) : (startDelay us s).spBuf = s.spBuf := rfl
@[simp] theorem startDelay_asAddr (us : Nat) : (startDelay us s).asAddr = s.asAddr := rfl
@[simp] theorem startDelay_asJunction (us : Nat) : (startDelay us s).asJunction = s.asJunction := rfl
@[simp] theorem startDelay_seq (us : Nat) : (startDelay us s).seq = ⟨s.seq.cmd, .waitUntil (s.clock + us) :: s.seq.todo, s.seq.loc⟩ := rfl
@[simp] theorem startDelay_params (us : Nat) : (startDelay us s).params = s.params := rfl
@[simp] theorem startDelay_env (us : Nat) : (startDelay us s).env = s.env := rfl
@[simp] theorem startDelay_trace (us : Nat) : (startDelay us s).trace = s.trace ++ [.delay us] := rfl
@[simp] theorem startDelay_reads (us : Nat) : (startDelay us s).reads = s.reads := rfl
@[simp] theorem startDelay_clock (us : Nat) : (startDelay us s).clock = s.clock := rfl
@[simp] theorem startDelay_addrDraws (us : Nat) : (startDelay us s).addrDraws = s.addrDraws := rfl
@[simp] theorem startDelay_quantum (us : Nat) : (startDelay us s).quantum = s.quantum := rfl
@[simp] theorem startDelay_busy (us : Nat) : (startDelay us s).status.busy = s.status.busy := rfl
@[simp] theorem startDelay_result (us : Nat) : (startDelay us s).status.result = s.status.result := rfl
@[simp] theorem startDelay_illegal (us : Nat) : (startDelay us s).status.illegal = s.status.illegal := rfl
@[simp] theorem startDelay_overrun (us : Nat) : (startDelay us s).status.overrun = s.status.overrun := rfl
@[simp] theorem startDelay_addrCrcErr (us : Nat) : (startDelay us s).status.addrCrcErr = s.status.addrCrcErr := rfl
@[simp] theorem startDelay_parasite (us : Nat) : (startDelay us s).status.parasite = s.status.parasite := rfl
@[simp] theorem startDelay_pullupOn (us : Nat) : (startDelay us s).status.pullupOn = s.status.pullupOn := rfl
@[simp] theorem startDelay_asExhausted (us : Nat) : (startDelay us s).status.asExhausted = s.status.asExhausted := rfl

/-! ### endDelay -/

@[simp] theorem endDelay_lastCmd (deadline : Nat) : (endDelay deadline s).lastCmd = s.lastCmd := rfl
@[simp] theorem endDelay_ctrl (deadline : Nat) : (endDelay deadline s).ctrl = s.ctrl := rfl
@[simp] theorem endDelay_arg (deadline : Nat) : (endDelay deadline s).arg = s.arg := rfl
@[simp] theorem endDelay_handlerId (deadline : Nat) : (endDelay deadline s).handlerId = s.handlerId := rfl
@[simp] theorem endDelay_globalRes (deadline : Nat) : (endDelay deadline s).globalRes = s.globalRes := rfl
@[simp] theorem endDelay_deviceCount (deadline : Nat) : (endDelay deadline s).deviceCount = s.deviceCount := rfl
@[simp] theorem endDelay_resOut (deadline : Nat) : (endDelay deadline s).resOut = s.resOut := rfl
@[simp] theorem endDelay_alarmT (deadline : Nat) : (endDelay deadline s).alarmT = s.alarmT := rfl
@[simp] theorem endDelay_crcAcc (deadline : Nat) : (endDelay deadline s).crcAcc = s.crcAcc := rfl
@[simp] theorem endDelay_phase (deadline : Nat) : (endDelay deadline s).phase = s.phase := rfl
@[simp] theorem endDelay_tempFp (deadline : Nat) : (endDelay deadline s).tempFp = s.tempFp := rfl
@[simp] theorem endDelay_addrIn (deadline : Nat) : (endDelay deadline s).addrIn = s.addrIn := rfl
@[simp] theorem endDelay_addrCmp (deadline : Nat) : (endDelay deadline s).addrCmp = s.addrCmp := rfl
@[simp] theorem endDelay_addrOut (deadline : Nat) : (endDelay deadline s).addrOut = s.addrOut := rfl
@[simp] theorem endDelay_spBuf (deadline : Nat) : (endDelay deadline s).spBuf = s.spBuf := rfl
@[simp] theorem endDelay_asAddr (deadline : Nat) : (endDelay deadline s).asAddr = s.asAddr := rfl
@[simp] theorem endDelay_asJunction (deadline : Nat) : (endDelay deadline s).asJunction = s.asJunction := rfl
@[simp] theorem endDelay_seq (deadline : Nat) : (endDelay deadline s).seq = s.seq := rfl
@[simp] theorem endDelay_params (deadline : Nat) : (endDelay deadline s).params = s.params := rfl
@[simp] theorem endDelay_trace (deadline : Nat) : (endDelay deadline s).trace = s.trace := rfl
@[simp] theorem endDelay_reads (deadline : Nat) : (endDelay deadline s).reads = s.reads := rfl
@[simp] theorem endDelay_clock (deadline : Nat) : (endDelay deadline s).clock = max s.clock deadline + tickAnswer s := rfl
@[simp] theorem endDelay_addrDraws (deadline : Nat) : (endDelay deadline s).addrDraws = s.addrDraws := rfl
@[simp] theorem endDelay_quantum (deadline : Nat) : (endDelay deadline s).quantum = s.quantum := rfl
@[simp] theorem endDelay_busy (deadline : Nat) : (endDelay deadline s).status.busy = s.status.busy := rfl
@[simp] theorem endDelay_result (deadline : Nat) : (endDelay deadline s).status.result = s.status.result := rfl
@[simp] theorem endDelay_illegal (deadline : Nat) : (endDelay deadline s).status.illegal = s.status.illegal := rfl
@[simp] theorem endDelay_overrun (deadline : Nat) : (endDelay deadline s).status.overrun = s.status.overrun := rfl
@[simp] theorem endDelay_addrCrcErr (deadline : Nat) : (endDelay deadline s).status.addrCrcErr = s.status.addrCrcErr := rfl
@[simp] theorem endDelay_parasite (deadline : Nat) : (endDelay deadline s).status.parasite = s.status.parasite := rfl
@[simp] theorem endDelay_pullupOn (deadline : Nat) : (endDelay deadline s).status.pullupOn = s.status.pullupOn := rfl
@[simp] theorem endDelay_asExhausted (deadline : Nat) : (endDelay deadline s).status.asExhausted = s.status.asExhausted := rfl

/-! ### readClock -/

@[simp] theorem readClock_lastCmd : (readClock s).lastCmd = s.lastCmd := rfl
@[simp] theorem readClock_ctrl : (readClock s).ctrl = s.ctrl := rfl
@[simp] theorem readClock_arg : (readClock s).arg = s.arg := rfl
@[simp] theorem readClock_handlerId : (readClock s).handlerId = s.handlerId := rfl
@[simp] theorem readClock_globalRes : (readClock s).globalRes = s.globalRes := rfl
@[simp] theorem readClock_deviceCount : (readClock s).deviceCount = s.deviceCount := rfl
@[simp] theorem readClock_resOut : (readClock s).resOut = s.resOut := rfl
@[simp] theorem readClock_alarmT : (readClock s).alarmT = s.alarmT := rfl
@[simp] theorem readClock_crcAcc : (readClock s).crcAcc = s.crcAcc := rfl
@[simp] theorem readClock_phase : (readClock s).phase = s.phase := rfl
@[simp] theorem readClock_tempFp : (readClock s).tempFp = s.tempFp := rfl
@[simp] theorem readClock_addrIn : (readClock s).addrIn = s.addrIn := rfl
@[simp] theorem readClock_addrCmp : (readClock s).addrCmp = s.addrCmp := rfl
@[simp] theorem readClock_addrOut : (readClock s).addrOut = s.addrOut := rfl
@[simp] theorem readClock_spBuf : (readClock s).spBuf = s.spBuf := rfl
@[simp] theorem readClock_asAddr : (readClock s).asAddr = s.asAddr := rfl
@[simp] theorem readClock_asJunction : (readClock s).asJunction = s.asJunction := rfl
@[simp] theorem readClock_seq : (readClock s).seq = s.seq := rfl
@[simp] theorem readClock_params : (readClock s).params = s.params := rfl
@[simp] theorem readClock_trace : (readClock s).trace = s.trace := rfl
@[simp] theorem readClock_reads : (readClock s).reads = s.reads := rfl
@[simp] theorem readClock_clock : (readClock s).clock = s.clock + tickAnswer s := rfl
@[simp] theorem readClock_addrDraws : (readClock s).addrDraws = s.addrDraws := rfl
@[simp] theorem readClock_quantum : (readClock s).quantum = s.quantum := rfl
@[simp] theorem readClock_busy : (readClock s).status.busy = s.status.busy := rfl
@[simp] theorem readClock_result : (readClock s).status.result = s.status.result := rfl
@[simp] theorem readClock_illegal : (readClock s).status.illegal = s.status.illegal := rfl
@[simp] theorem readClock_overrun : (readClock s).status.overrun = s.status.overrun := rfl
@[simp] theorem readClock_addrCrcErr : (readClock s).status.addrCrcErr = s.status.addrCrcErr := rfl
@[simp] theorem readClock_parasite : (readClock s).status.parasite = s.status.parasite := rfl
@[simp] theorem readClock_pullupOn : (readClock s).status.pullupOn = s.status.pullupOn := rfl
@[simp] theorem readClock_asExhausted : (readClock s).status.asExhausted = s.status.asExhausted := rfl

/-! ### emitCallback -/

@[simp] theorem emitCallback_lastCmd (h : Byte) (a : Addr) : (emitCallback h a s).lastCmd = s.lastCmd := rfl
@[simp] theorem emitCallback_ctrl (h : Byte) (a : Addr) : (emitCallback h a s).ctrl = s.ctrl := rfl
@[simp] theorem emitCallback_arg (h : Byte) (a : Addr) : (emitCallback h a s).arg = s.arg := rfl
@[simp] theorem emitCallback_handlerId (h : Byte) (a : Addr) : (emitCallback h a s).handlerId = s.handlerId := rfl
@[simp] theorem emitCallback_globalRes (h : Byte) (a : Addr) : (emitCallback h a s).globalRes = s.globalRes := rfl
@[simp] theorem emitCallback_deviceCount (h : Byte) (a : Addr) : (emitCallback h a s).deviceCount = s.deviceCount := rfl
@[simp] theorem emitCallback_resOut (h : Byte) (a : Addr) : (emitCallback h a s).resOut = s.resOut := rfl
@[simp] theorem emitCallback_alarmT (h : Byte) (a : Addr) : (emitCallback h a s).alarmT = s.alarmT := rfl
@[simp] theorem emitCallback_crcAcc (h : Byte) (a : Addr) : (emitCallback h a s).crcAcc = s.crcAcc := rfl
@[simp] theorem emitCallback_phase (h : Byte) (a : Addr) : (emitCallback h a s).phase = s.phase := rfl
@[simp] theorem emitCallback_tempFp (h : Byte) (a : Addr) : (emitCallback h a s).tempFp = s.tempFp := rfl
@[simp] theorem emitCallback_addrIn (h : Byte) (a : Addr) : (emitCallback h a s).addrIn = s.addrIn := rfl
@[simp] theorem emitCallback_addrCmp (h : Byte) (a : Addr) : (emitCallback h a s).addrCmp = s.addrCmp := rfl
@[simp] theorem emitCallback_addrOut (h : Byte) (a : Addr) : (emitCallback h a s).addrOut = s.addrOut := rfl
@[simp] theorem emitCallback_spBuf (h : Byte) (a : Addr) : (emitCallback h a s).spBuf = s.spBuf := rfl
@[simp] theorem emitCallback_asAddr (h : Byte) (a : Addr) : (emitCallback h a s).asAddr = s.asAddr := rfl
@[simp] theorem emitCallback_asJunction (h : Byte) (a : Addr) : (emitCallback h a s).asJunction = s.asJunction := rfl
@[simp] theorem emitCallback_seq (h : Byte) (a : Addr) : (emitCallback h a s).seq = s.seq := rfl
@[simp] theorem emitCallback_params (h : Byte) (a : Addr) : (emitCallback h a s).params = s.params := rfl
@[simp] theorem emitCallback_env (h : Byte) (a : Addr) : (emitCallback h a s).env = s.env := rfl
@[simp] theorem emitCallback_trace (h : Byte) (a : Addr) : (emitCallback h a s).trace = s.trace ++ [.callback h a] := rfl
@[simp] theorem emitCallback_reads (h : Byte) (a : Addr) : (emitCallback h a s).reads = s.reads := rfl
@[simp] theorem emitCallback_clock (h : Byte) (a : Addr) : (emitCallback h a s).clock = s.clock := rfl
@[simp] theorem emitCallback_addrDraws (h : Byte) (a : Addr) : (emitCallback h a s).addrDraws = s.addrDraws := rfl
@[simp] theorem emitCallback_quantum (h : Byte) (a : Addr) : (emitCallback h a s).quantum = s.quantum := rfl
@[simp] theorem emitCallback_busy (h : Byte) (a : Addr) : (emitCallback h a s).status.busy = s.status.busy := rfl
@[simp] theorem emitCallback_result (h : Byte) (a : Addr) : (emitCallback h a s).status.result = s.status.result := rfl
@[simp] theorem emitCallback_illegal (h : Byte) (a : Addr) : (emitCallback h a s).status.illegal = s.status.illegal := rfl
@[simp] theorem emitCallback_overrun (h : Byte) (a : Addr) : (emitCallback h a s).status.overrun = s.status.overrun := rfl
@[simp] theorem emitCallback_addrCrcErr (h : Byte) (a : Addr) : (emitCallback h a s).status.addrCrcErr = s.status.addrCrcErr := rfl
@[simp] theorem emitCallback_parasite (h : Byte) (a : Addr) : (emitCallback h a s).status.parasite = s.status.parasite := rfl
@[simp] theorem emitCallback_pullupOn (h : Byte) (a : Addr) : (emitCallback h a s).status.pullupOn = s.status.pullupOn := rfl
@[simp] theorem emitCallback_asExhausted (h : Byte) (a : Addr) : (emitCallback h a s).status.asExhausted = s.status.asExhausted := rfl

/-! ### push -/

@[simp] theorem push_lastCmd (ls : List Line) : (push ls s).lastCmd = s.lastCmd := rfl
@[simp] theorem push_ctrl (ls : List Line) : (push ls s).ctrl = s.ctrl := rfl
@[simp] theorem push_arg (ls : List Line) : (push ls s).arg = s.arg := rfl
@[simp] theorem push_handlerId (ls : List Line) : (push ls s).handlerId = s.handlerId := rfl
@[simp] theorem push_globalRes (ls : List Line) : (push ls s).globalRes = s.globalRes := rfl
@[simp] theorem push_deviceCount (ls : List Line) : (push ls s).deviceCount = s.deviceCount := rfl
@[simp] theorem push_resOut (ls : List Line) : (push ls s).resOut = s.resOut := rfl
@[simp] theorem push_alarmT (ls : List Line) : (push ls s).alarmT = s.alarmT := rfl
@[simp] theorem push_crcAcc (ls : List Line) : (push ls s).crcAcc = s.crcAcc := rfl
@[simp] theorem push_phase (ls : List Line) : (push ls s).phase = s.phase := rfl
@[simp] theorem push_tempFp (ls : List Line) : (push ls s).tempFp = s.tempFp := rfl
@[simp] theorem push_addrIn (ls : List Line) : (push ls s).addrIn = s.addrIn := rfl
@[simp] theorem push_addrCmp (ls : List Line) : (push ls s).addrCmp = s.addrCmp := rfl
@[simp] theorem push_addrOut (ls : List Line) : (push ls s).addrOut = s.addrOut := rfl
@[simp] theorem push_spBuf (ls : List Line) : (push ls s).spBuf = s.spBuf := rfl
@[simp] theorem push_asAddr (ls : List Line) : (push ls s).asAddr = s.asAddr := rfl
@[simp] theorem push_asJunction (ls : List Line) : (push ls s).asJunction = s.asJunction := rfl
@[simp] theorem push_seq (ls : List Line) : (push ls s).seq = ⟨s.seq.cmd, ls ++ s.seq.todo, s.seq.loc⟩ := rfl
@[simp] theorem push_params (ls : List Line) : (push ls s).params = s.params := rfl
@[simp] theorem push_env (ls : List Line) : (push ls s).env = s.env := rfl
@[simp] theorem push_trace (ls : List Line) : (push ls s).trace = s.trace := rfl
@[simp] theorem push_reads (ls : List Line) : (push ls s).reads = s.reads := rfl
@[simp] theorem push_clock (ls : List Line) : (push ls s).clock = s.clock := rfl
@[simp] theorem push_addrDraws (ls : List Line) : (push ls s).addrDraws = s.addrDraws := rfl
@[simp] theorem push_quantum (ls : List Line) : (push ls s).quantum = s.quantum := rfl
@[simp] theorem push_busy (ls : List Line) : (push ls s).status.busy = s.status.busy := rfl
@[simp] theorem push_result (ls : List Line) : (push ls s).status.result = s.status.result := rfl
@[simp] theorem push_illegal (ls : List Line) : (push ls s).status.illegal = s.status.illegal := rfl
@[simp] theorem push_overrun (ls : List Line) : (push ls s).status.overrun = s.status.overrun := rfl
@[simp] theorem push_addrCrcErr (ls : List Line) : (push ls s).status.addrCrcErr = s.status.addrCrcErr := rfl
@[simp] theorem push_parasite (ls : List Line) : (push ls s).status.parasite = s.status.parasite := rfl
@[simp] theorem push_pullupOn (ls : List Line) : (push ls s).status.pullupOn = s.status.pullupOn := rfl
@[simp] theorem push_asExhausted (ls : List Line) : (push ls s).status.asExhausted = s.status.asExhausted := rfl

/-! ### finishCommand -/

@[simp] theorem finishCommand_lastCmd : (finishCommand s).lastCmd = s.lastCmd := rfl
@[simp] theorem finishCommand_ctrl : (finishCommand s).ctrl = s.ctrl := rfl
@[simp] theorem finishCommand_arg : (finishCommand s).arg = s.arg := rfl
@[simp] theorem finishCommand_handlerId : (finishCommand s).handlerId = s.handlerId := rfl
@[simp] theorem finishCommand_globalRes : (finishCommand s).globalRes = s.globalRes := rfl
@[simp] theorem finishCommand_deviceCount : (finishCommand s).deviceCount = s.deviceCount := rfl
@[simp] theorem finishCommand_resOut : (finishCommand s).resOut = s.resOut := rfl
@[simp] theorem finishCommand_alarmT : (finishCommand s).alarmT = s.alarmT := rfl
@[simp] theorem finishCommand_crcAcc : (finishCommand s).crcAcc = s.crcAcc := rfl
@[simp] theorem finishCommand_phase : (finishCommand s).phase = s.phase := rfl
@[simp] theorem finishCommand_tempFp : (finishCommand s).tempFp = s.tempFp := rfl
@[simp] theorem finishCommand_addrIn : (finishCommand s).addrIn = s.addrIn := rfl
@[simp] theorem finishCommand_addrCmp : (finishCommand s).addrCmp = s.addrCmp := rfl
@[simp] theorem finishCommand_addrOut : (finishCommand s).addrOut = s.addrOut := rfl
@[simp] theorem finishCommand_spBuf : (finishCommand s).spBuf = s.spBuf := rfl
@[simp] theorem finishCommand_asAddr : (finishCommand s).asAddr = s.asAddr := rfl
@[simp] theorem finishCommand_asJunction : (finishCommand s).asJunction = s.asJunction := rfl
@[simp] theorem finishCommand_seq : (finishCommand s).seq = Micro.none := rfl
@[simp] theorem finishCommand_params : (finishCommand s).params = s.params := rfl
@[simp] theorem finishCommand_env : (finishCommand s).env = s.env := rfl
@[simp] theorem finishCommand_trace : (finishCommand s).trace = s.trace := rfl
@[simp] theorem finishCommand_reads : (finishCommand s).reads = s.reads := rfl
@[simp] theorem finishCommand_clock : (finishCommand s).clock = s.clock := rfl
@[simp] theorem finishCommand_addrDraws : (finishCommand s).addrDraws = s.addrDraws := rfl
@[simp] theorem finishCommand_quantum : (finishCommand s).quantum = s.quantum := rfl
@[simp] theorem finishCommand_busy : (finishCommand s).status.busy = false := rfl
@[simp] theorem finishCommand_result : (finishCommand s).status.result = s.status.result := rfl
@[simp] theorem finishCommand_illegal : (finishCommand s).status.illegal = s.status.illegal := rfl
@[simp] theorem finishCommand_overrun : (finishCommand s).status.overrun = s.status.overrun := rfl
@[simp] theorem finishCommand_addrCrcErr : (finishCommand s).status.addrCrcErr = s.status.addrCrcErr := rfl
@[simp] theorem finishCommand_parasite : (finishCommand s).status.parasite = s.status.parasite := rfl
@[simp] theorem finishCommand_pullupOn : (finishCommand s).status.pullupOn = s.status.pullupOn := rfl
@[simp] theorem finishCommand_asExhausted : (finishCommand s).status.asExhausted = s.status.asExhausted := rfl

/-! ### illegalCommand -/

@[simp] theorem illegalCommand_lastCmd : (illegalCommand s).lastCmd = s.lastCmd := rfl
@[simp] theorem illegalCommand_ctrl : (illegalCommand s).ctrl = s.ctrl := rfl
@[simp] theorem illegalCommand_arg : (illegalCommand s).arg = s.arg := rfl
@[simp] theorem illegalCommand_handlerId : (illegalCommand s).handlerId = s.handlerId := rfl
@[simp] theorem illegalCommand_globalRes : (illegalCommand s).globalRes = s.globalRes := rfl
@[simp] theorem illegalCommand_deviceCount : (illegalCommand s).deviceCount = s.deviceCount := rfl
@[simp] theorem illegalCommand_resOut : (illegalCommand s).resOut = s.resOut := rfl
@[simp] theorem illegalCommand_alarmT : (illegalCommand s).alarmT = s.alarmT := rfl
@[simp] theorem illegalCommand_crcAcc : (illegalCommand s).crcAcc = s.crcAcc := rfl
@[simp] theorem illegalCommand_phase : (illegalCommand s).phase = s.phase := rfl
@[simp] theorem illegalCommand_tempFp : (illegalCommand s).tempFp = s.tempFp := rfl
@[simp] theorem illegalCommand_addrIn : (illegalCommand s).addrIn = s.addrIn := rfl
@[simp] theorem illegalCommand_addrCmp : (illegalCommand s).addrCmp = s.addrCmp := rfl
@[simp] theorem illegalCommand_addrOut : (illegalCommand s).addrOut = s.addrOut := rfl
@[simp] theorem illegalCommand_spBuf : (illegalCommand s).spBuf = s.spBuf := rfl
@[simp] theorem illegalCommand_asAddr : (illegalCommand s).asAddr = s.asAddr := rfl
@[simp] theorem illegalCommand_asJunction : (illegalCommand s).asJunction = s.asJunction := rfl
@[simp] theorem illegalCommand_seq : (illegalCommand s).seq = s.seq := rfl
@[simp] theorem illegalCommand_params : (illegalCommand s).params = s.params := rfl
@[simp] theorem illegalCommand_env : (illegalCommand s).env = s.env := rfl
@[simp] theorem illegalCommand_trace : (illegalCommand s).trace = s.trace := rfl
@[simp] theorem illegalCommand_reads : (illegalCommand s).reads = s.reads := rfl
@[simp] theorem illegalCommand_clock : (illegalCommand s).clock = s.clock := rfl
@[simp] theorem illegalCommand_addrDraws : (illegalCommand s).addrDraws = s.addrDraws := rfl
@[simp] theorem illegalCommand_quantum : (illegalCommand s).quantum = s.quantum := rfl
@[simp] theorem illegalCommand_busy : (illegalCommand s).status.busy = s.status.busy := rfl
@[simp] theorem illegalCommand_result : (illegalCommand s).status.result = false := rfl
@[simp] theorem illegalCommand_illegal : (illegalCommand s).status.illegal = true := rfl
@[simp] theorem illegalCommand_overrun : (illegalCommand s).status.overrun = s.status.overrun := rfl
@[simp] theorem illegalCommand_addrCrcErr : (illegalCommand s).status.addrCrcErr = s.status.addrCrcErr := rfl
@[simp] theorem illegalCommand_parasite : (illegalCommand s).status.parasite = s.status.parasite := rfl
@[simp] theorem illegalCommand_pullupOn : (illegalCommand s).status.pullupOn = s.status.pullupOn := rfl
@[simp] theorem illegalCommand_asExhausted : (illegalCommand s).status.asExhausted = s.status.asExhausted := rfl

/-! ### acknowledge -/

@[simp] theorem acknowledge_lastCmd (v : Byte) : (acknowledge v s).lastCmd = s.lastCmd := rfl
@[simp] theorem acknowledge_ctrl (v : Byte) : (acknowledge v s).ctrl = s.ctrl := rfl
@[simp] theorem acknowledge_arg (v : Byte) : (acknowledge v s).arg = s.arg := rfl
@[simp] theorem acknowledge_handlerId (v : Byte) : (acknowledge v s).handlerId = s.handlerId := rfl
@[simp] theorem acknowledge_globalRes (v : Byte) : (acknowledge v s).globalRes = s.globalRes := rfl
@[simp] theorem acknowledge_deviceCount (v : Byte) : (acknowledge v s).deviceCount = s.deviceCount := rfl
@[simp] theorem acknowledge_resOut (v : Byte) : (acknowledge v s).resOut = s.resOut := rfl
@[simp] theorem acknowledge_alarmT (v : Byte) : (acknowledge v s).alarmT = s.alarmT := rfl
@[simp] theorem acknowledge_crcAcc (v : Byte) : (acknowledge v s).crcAcc = s.crcAcc := rfl
@[simp] theorem acknowledge_phase (v : Byte) : (acknowledge v s).phase = s.phase := rfl
@[simp] theorem acknowledge_tempFp (v : Byte) : (acknowledge v s).tempFp = s.tempFp := rfl
@[simp] theorem acknowledge_addrIn (v : Byte) : (acknowledge v s).addrIn = s.addrIn := rfl
@[simp] theorem acknowledge_addrCmp (v : Byte) : (acknowledge v s).addrCmp = s.addrCmp := rfl
@[simp] theorem acknowledge_addrOut (v : Byte) : (acknowledge v s).addrOut = s.addrOut := rfl
@[simp] theorem acknowledge_spBuf (v : Byte) : (acknowledge v s).spBuf = s.spBuf := rfl
@[simp] theorem acknowledge_asAddr (v : Byte) : (acknowledge v s).asAddr = s.asAddr := rfl
@[simp] theorem acknowledge_asJunction (v : Byte) : (acknowledge v s).asJunction = s.asJunction := rfl
@[simp] theorem acknowledge_seq (v : Byte) : (acknowledge v s).seq = s.seq := rfl
@[simp] theorem acknowledge_params (v : Byte) : (acknowledge v s).params = s.params := rfl
@[simp] theorem acknowledge_env (v : Byte) : (acknowledge v s).env = s.env := rfl
@[simp] theorem acknowledge_trace (v : Byte) : (acknowledge v s).trace = s.trace := rfl
@[simp] theorem acknowledge_reads (v : Byte) : (acknowledge v s).reads = s.reads := rfl
@[simp] theorem acknowledge_clock (v : Byte) : (acknowledge v s).clock = s.clock := rfl
@[simp] theorem acknowledge_addrDraws (v : Byte) : (acknowledge v s).addrDraws = s.addrDraws := rfl
@[simp] theorem acknowledge_quantum (v : Byte) : (acknowledge v s).quantum = s.quantum := rfl
@[simp] theorem acknowledge_busy (v : Byte) : (acknowledge v s).status.busy = s.status.busy := rfl
@[simp] theorem acknowledge_result (v : Byte) : (acknowledge v s).status.result = s.status.result := rfl
@[simp] theorem acknowledge_illegal (v : Byte) : (acknowledge v s).status.illegal = (s.status.illegal && !v.getLsbD 2) := rfl
@[simp] theorem acknowledge_overrun (v : Byte) : (acknowledge v s).status.overrun = (s.status.overrun && !v.getLsbD 3) := rfl
@[simp] theorem acknowledge_addrCrcErr (v : Byte) : (acknowledge v s).status.addrCrcErr = s.status.addrCrcErr := rfl
@[simp] theorem acknowledge_parasite (v : Byte) : (acknowledge v s).status.parasite = s.status.parasite := rfl
@[simp] theorem acknowledge_pullupOn (v : Byte) : (acknowledge v s).status.pullupOn = s.status.pullupOn := rfl
@[simp] theorem acknowledge_asExhausted (v : Byte) : (acknowledge v s).status.asExhausted = s.status.asExhausted := rfl

/-! ### overrun -/

@[simp] theorem overrun_lastCmd : (overrun s).lastCmd = s.lastCmd := rfl
@[simp] theorem overrun_ctrl : (overrun s).ctrl = s.ctrl := rfl
@[simp] theorem overrun_arg : (overrun s).arg = s.arg := rfl
@[simp] theorem overrun_handlerId : (overrun s).handlerId = s.handlerId := rfl
@[simp] theorem overrun_globalRes : (overrun s).globalRes = s.globalRes := rfl
@[simp] theorem overrun_deviceCount : (overrun s).deviceCount = s.deviceCount := rfl
@[simp] theorem overrun_resOut : (overrun s).resOut = s.resOut := rfl
@[simp] theorem overrun_alarmT : (overrun s).alarmT = s.alarmT := rfl
@[simp] theorem overrun_crcAcc : (overrun s).crcAcc = s.crcAcc := rfl
@[simp] theorem overrun_phase : (overrun s).phase = s.phase := rfl
@[simp] theorem overrun_tempFp : (overrun s).tempFp = s.tempFp := rfl
@[simp] theorem overrun_addrIn : (overrun s).addrIn = s.addrIn := rfl
@[simp] theorem overrun_addrCmp : (overrun s).addrCmp = s.addrCmp := rfl
@[simp] theorem overrun_addrOut : (overrun s).addrOut = s.addrOut := rfl
@[simp] theorem overrun_spBuf : (overrun s).spBuf = s.spBuf := rfl
@[simp] theorem overrun_asAddr : (overrun s).asAddr = s.asAddr := rfl
@[simp] theorem overrun_asJunction : (overrun s).asJunction = s.asJunction := rfl
@[simp] theorem overrun_seq : (overrun s).seq = s.seq := rfl
@[simp] theorem overrun_params : (overrun s).params = s.params := rfl
@[simp] theorem overrun_env : (overrun s).env = s.env := rfl
@[simp] theorem overrun_trace : (overrun s).trace = s.trace := rfl
@[simp] theorem overrun_reads : (overrun s).reads = s.reads := rfl
@[simp] theorem overrun_clock : (overrun s).clock = s.clock := rfl
@[simp] theorem overrun_addrDraws : (overrun s).addrDraws = s.addrDraws := rfl
@[simp] theorem overrun_quantum : (overrun s).quantum = s.quantum := rfl
@[simp] theorem overrun_busy : (overrun s).status.busy = s.status.busy := rfl
@[simp] theorem overrun_result : (overrun s).status.result = s.status.result := rfl
@[simp] theorem overrun_illegal : (overrun s).status.illegal = s.status.illegal := rfl
@[simp] theorem overrun_overrun : (overrun s).status.overrun = true := rfl
@[simp] theorem overrun_addrCrcErr : (overrun s).status.addrCrcErr = s.status.addrCrcErr := rfl
@[simp] theorem overrun_parasite : (overrun s).status.parasite = s.status.parasite := rfl
@[simp] theorem overrun_pullupOn : (overrun s).status.pullupOn = s.status.pullupOn := rfl
@[simp] theorem overrun_asExhausted : (overrun s).status.asExhausted = s.status.asExhausted := rfl
@[simp] theorem endDelay_turns (deadline : Nat) : (endDelay deadline s).env.turns = s.env.turns := rfl
@[simp] theorem endDelay_presence (deadline : Nat) : (endDelay deadline s).env.presence = s.env.presence := rfl
@[simp] theorem endDelay_bytes (deadline : Nat) : (endDelay deadline s).env.bytes = s.env.bytes := rfl
@[simp] theorem endDelay_bits (deadline : Nat) : (endDelay deadline s).env.bits = s.env.bits := rfl
@[simp] theorem endDelay_found (deadline : Nat) : (endDelay deadline s).env.found = s.env.found := rfl
@[simp] theorem endDelay_ticks (deadline : Nat) : (endDelay deadline s).env.ticks = restAnswers s.env.ticks := rfl
@[simp] theorem readClock_turns : (readClock s).env.turns = s.env.turns := rfl
@[simp] theorem readClock_presence : (readClock s).env.presence = s.env.presence := rfl
@[simp] theorem readClock_bytes : (readClock s).env.bytes = s.env.bytes := rfl
@[simp] theorem readClock_bits : (readClock s).env.bits = s.env.bits := rfl
@[simp] theorem readClock_found : (readClock s).env.found = s.env.found := rfl
@[simp] theorem readClock_ticks : (readClock s).env.ticks = restAnswers s.env.ticks := rfl

/-! ### resetBlock -/

@[simp] theorem resetBlock_lastCmd : (resetBlock s).lastCmd = State.reset.lastCmd := rfl
@[simp] theorem resetBlock_ctrl : (resetBlock s).ctrl = State.reset.ctrl := rfl
@[simp] theorem resetBlock_arg : (resetBlock s).arg = State.reset.arg := rfl
@[simp] theorem resetBlock_handlerId : (resetBlock s).handlerId = State.reset.handlerId := rfl
@[simp] theorem resetBlock_globalRes : (resetBlock s).globalRes = State.reset.globalRes := rfl
@[simp] theorem resetBlock_deviceCount : (resetBlock s).deviceCount = State.reset.deviceCount := rfl
@[simp] theorem resetBlock_resOut : (resetBlock s).resOut = State.reset.resOut := rfl
@[simp] theorem resetBlock_alarmT : (resetBlock s).alarmT = State.reset.alarmT := rfl
@[simp] theorem resetBlock_crcAcc : (resetBlock s).crcAcc = State.reset.crcAcc := rfl
@[simp] theorem resetBlock_phase : (resetBlock s).phase = State.reset.phase := rfl
@[simp] theorem resetBlock_tempFp : (resetBlock s).tempFp = State.reset.tempFp := rfl
@[simp] theorem resetBlock_addrIn : (resetBlock s).addrIn = State.reset.addrIn := rfl
@[simp] theorem resetBlock_addrCmp : (resetBlock s).addrCmp = State.reset.addrCmp := rfl
@[simp] theorem resetBlock_addrOut : (resetBlock s).addrOut = State.reset.addrOut := rfl
@[simp] theorem resetBlock_spBuf : (resetBlock s).spBuf = State.reset.spBuf := rfl
@[simp] theorem resetBlock_asAddr : (resetBlock s).asAddr = State.reset.asAddr := rfl
@[simp] theorem resetBlock_asJunction : (resetBlock s).asJunction = State.reset.asJunction := rfl
@[simp] theorem resetBlock_seq : (resetBlock s).seq = State.reset.seq := rfl
@[simp] theorem resetBlock_params : (resetBlock s).params = s.params := rfl
@[simp] theorem resetBlock_env : (resetBlock s).env = s.env := rfl
@[simp] theorem resetBlock_trace : (resetBlock s).trace = s.trace := rfl
@[simp] theorem resetBlock_reads : (resetBlock s).reads = s.reads := rfl
@[simp] theorem resetBlock_clock : (resetBlock s).clock = s.clock := rfl
@[simp] theorem resetBlock_addrDraws : (resetBlock s).addrDraws = s.addrDraws := rfl
@[simp] theorem resetBlock_quantum : (resetBlock s).quantum = s.quantum := rfl
@[simp] theorem resetBlock_busy : (resetBlock s).status.busy = State.reset.status.busy := rfl
@[simp] theorem resetBlock_result : (resetBlock s).status.result = State.reset.status.result := rfl
@[simp] theorem resetBlock_illegal : (resetBlock s).status.illegal = State.reset.status.illegal := rfl
@[simp] theorem resetBlock_overrun : (resetBlock s).status.overrun = State.reset.status.overrun := rfl
@[simp] theorem resetBlock_addrCrcErr : (resetBlock s).status.addrCrcErr = State.reset.status.addrCrcErr := rfl
@[simp] theorem resetBlock_parasite : (resetBlock s).status.parasite = State.reset.status.parasite := rfl
@[simp] theorem resetBlock_pullupOn : (resetBlock s).status.pullupOn = State.reset.status.pullupOn := rfl
@[simp] theorem resetBlock_asExhausted : (resetBlock s).status.asExhausted = State.reset.status.asExhausted := rfl

end Sys2Proof.Machine
end

