-- ==== Sys2Proof/Laws/Primitives.lean ====
section
/-! SUPPORT. What each primitive of the pseudocode (Machine/Pseudocode.lean) leaves in each field: one lemma per field
per primitive. -/

namespace Sys2Proof.Machine

variable (s : State)


/-! ### delayFor -/

@[simp] theorem delayFor_lastCmd (us : Nat) : (delayFor us s).lastCmd = s.lastCmd := rfl
@[simp] theorem delayFor_ctrl (us : Nat) : (delayFor us s).ctrl = s.ctrl := rfl
@[simp] theorem delayFor_arg (us : Nat) : (delayFor us s).arg = s.arg := rfl
@[simp] theorem delayFor_handlerId (us : Nat) : (delayFor us s).handlerId = s.handlerId := rfl
@[simp] theorem delayFor_globalRes (us : Nat) : (delayFor us s).globalRes = s.globalRes := rfl
@[simp] theorem delayFor_deviceCount (us : Nat) : (delayFor us s).deviceCount = s.deviceCount := rfl
@[simp] theorem delayFor_resOut (us : Nat) : (delayFor us s).resOut = s.resOut := rfl
@[simp] theorem delayFor_alarmT (us : Nat) : (delayFor us s).alarmT = s.alarmT := rfl
@[simp] theorem delayFor_crcAcc (us : Nat) : (delayFor us s).crcAcc = s.crcAcc := rfl
@[simp] theorem delayFor_phase (us : Nat) : (delayFor us s).phase = s.phase := rfl
@[simp] theorem delayFor_tempFp (us : Nat) : (delayFor us s).tempFp = s.tempFp := rfl
@[simp] theorem delayFor_addrIn (us : Nat) : (delayFor us s).addrIn = s.addrIn := rfl
@[simp] theorem delayFor_addrCmp (us : Nat) : (delayFor us s).addrCmp = s.addrCmp := rfl
@[simp] theorem delayFor_addrOut (us : Nat) : (delayFor us s).addrOut = s.addrOut := rfl
@[simp] theorem delayFor_spBuf (us : Nat) : (delayFor us s).spBuf = s.spBuf := rfl
@[simp] theorem delayFor_asAddr (us : Nat) : (delayFor us s).asAddr = s.asAddr := rfl
@[simp] theorem delayFor_asJunction (us : Nat) : (delayFor us s).asJunction = s.asJunction := rfl
@[simp] theorem delayFor_seq (us : Nat) : (delayFor us s).seq = s.seq := rfl
@[simp] theorem delayFor_params (us : Nat) : (delayFor us s).params = s.params := rfl
@[simp] theorem delayFor_trace (us : Nat) : (delayFor us s).trace = s.trace ++ [.delay us] := rfl
@[simp] theorem delayFor_reads (us : Nat) : (delayFor us s).reads = s.reads := rfl
@[simp] theorem delayFor_clock (us : Nat) : (delayFor us s).clock = s.clock + us + tickAnswer s := rfl
@[simp] theorem delayFor_addrDraws (us : Nat) : (delayFor us s).addrDraws = s.addrDraws := rfl
@[simp] theorem delayFor_quantum (us : Nat) : (delayFor us s).quantum = s.quantum := rfl
@[simp] theorem delayFor_busy (us : Nat) : (delayFor us s).status.busy = s.status.busy := rfl
@[simp] theorem delayFor_result (us : Nat) : (delayFor us s).status.result = s.status.result := rfl
@[simp] theorem delayFor_illegal (us : Nat) : (delayFor us s).status.illegal = s.status.illegal := rfl
@[simp] theorem delayFor_overrun (us : Nat) : (delayFor us s).status.overrun = s.status.overrun := rfl
@[simp] theorem delayFor_addrCrcErr (us : Nat) : (delayFor us s).status.addrCrcErr = s.status.addrCrcErr := rfl
@[simp] theorem delayFor_parasite (us : Nat) : (delayFor us s).status.parasite = s.status.parasite := rfl
@[simp] theorem delayFor_pullupOn (us : Nat) : (delayFor us s).status.pullupOn = s.status.pullupOn := rfl
@[simp] theorem delayFor_asExhausted (us : Nat) : (delayFor us s).status.asExhausted = s.status.asExhausted := rfl
@[simp] theorem delayFor_turns (us : Nat) : (delayFor us s).env.turns = s.env.turns := rfl
@[simp] theorem delayFor_presence (us : Nat) : (delayFor us s).env.presence = s.env.presence := rfl
@[simp] theorem delayFor_bytes (us : Nat) : (delayFor us s).env.bytes = s.env.bytes := rfl
@[simp] theorem delayFor_bits (us : Nat) : (delayFor us s).env.bits = s.env.bits := rfl
@[simp] theorem delayFor_found (us : Nat) : (delayFor us s).env.found = s.env.found := rfl
@[simp] theorem delayFor_ticks (us : Nat) : (delayFor us s).env.ticks = restAnswers s.env.ticks := rfl

/-! ### perform -/

@[simp] theorem perform_lastCmd (e : Event) : (perform e s).lastCmd = s.lastCmd := rfl
@[simp] theorem perform_ctrl (e : Event) : (perform e s).ctrl = s.ctrl := rfl
@[simp] theorem perform_arg (e : Event) : (perform e s).arg = s.arg := rfl
@[simp] theorem perform_handlerId (e : Event) : (perform e s).handlerId = s.handlerId := rfl
@[simp] theorem perform_globalRes (e : Event) : (perform e s).globalRes = s.globalRes := rfl
@[simp] theorem perform_deviceCount (e : Event) : (perform e s).deviceCount = s.deviceCount := rfl
@[simp] theorem perform_resOut (e : Event) : (perform e s).resOut = s.resOut := rfl
@[simp] theorem perform_alarmT (e : Event) : (perform e s).alarmT = s.alarmT := rfl
@[simp] theorem perform_crcAcc (e : Event) : (perform e s).crcAcc = s.crcAcc := rfl
@[simp] theorem perform_phase (e : Event) : (perform e s).phase = s.phase := rfl
@[simp] theorem perform_tempFp (e : Event) : (perform e s).tempFp = s.tempFp := rfl
@[simp] theorem perform_addrIn (e : Event) : (perform e s).addrIn = s.addrIn := rfl
@[simp] theorem perform_addrCmp (e : Event) : (perform e s).addrCmp = s.addrCmp := rfl
@[simp] theorem perform_addrOut (e : Event) : (perform e s).addrOut = s.addrOut := rfl
@[simp] theorem perform_spBuf (e : Event) : (perform e s).spBuf = s.spBuf := rfl
@[simp] theorem perform_asAddr (e : Event) : (perform e s).asAddr = s.asAddr := rfl
@[simp] theorem perform_asJunction (e : Event) : (perform e s).asJunction = s.asJunction := rfl
@[simp] theorem perform_seq (e : Event) : (perform e s).seq = s.seq := rfl
@[simp] theorem perform_params (e : Event) : (perform e s).params = s.params := rfl
@[simp] theorem perform_env (e : Event) : (perform e s).env = s.env := rfl
@[simp] theorem perform_trace (e : Event) : (perform e s).trace = s.trace ++ (pendingRelease s ++ [e]) := rfl
@[simp] theorem perform_reads (e : Event) : (perform e s).reads = s.reads := rfl
@[simp] theorem perform_clock (e : Event) : (perform e s).clock = s.clock := rfl
@[simp] theorem perform_addrDraws (e : Event) : (perform e s).addrDraws = s.addrDraws := rfl
@[simp] theorem perform_quantum (e : Event) : (perform e s).quantum = s.quantum := rfl
@[simp] theorem perform_busy (e : Event) : (perform e s).status.busy = s.status.busy := rfl
@[simp] theorem perform_result (e : Event) : (perform e s).status.result = s.status.result := rfl
@[simp] theorem perform_illegal (e : Event) : (perform e s).status.illegal = s.status.illegal := rfl
@[simp] theorem perform_overrun (e : Event) : (perform e s).status.overrun = s.status.overrun := rfl
@[simp] theorem perform_addrCrcErr (e : Event) : (perform e s).status.addrCrcErr = s.status.addrCrcErr := rfl
@[simp] theorem perform_parasite (e : Event) : (perform e s).status.parasite = s.status.parasite := rfl
@[simp] theorem perform_pullupOn (e : Event) : (perform e s).status.pullupOn = false := rfl
@[simp] theorem perform_asExhausted (e : Event) : (perform e s).status.asExhausted = s.status.asExhausted := rfl

/-! ### pcReset -/

@[simp] theorem pcReset_lastCmd : (pcReset s).lastCmd = s.lastCmd := rfl
@[simp] theorem pcReset_ctrl : (pcReset s).ctrl = s.ctrl := rfl
@[simp] theorem pcReset_arg : (pcReset s).arg = s.arg := rfl
@[simp] theorem pcReset_handlerId : (pcReset s).handlerId = s.handlerId := rfl
@[simp] theorem pcReset_globalRes : (pcReset s).globalRes = s.globalRes := rfl
@[simp] theorem pcReset_deviceCount : (pcReset s).deviceCount = s.deviceCount := rfl
@[simp] theorem pcReset_resOut : (pcReset s).resOut = s.resOut := rfl
@[simp] theorem pcReset_alarmT : (pcReset s).alarmT = s.alarmT := rfl
@[simp] theorem pcReset_crcAcc : (pcReset s).crcAcc = s.crcAcc := rfl
@[simp] theorem pcReset_phase : (pcReset s).phase = s.phase := rfl
@[simp] theorem pcReset_tempFp : (pcReset s).tempFp = s.tempFp := rfl
@[simp] theorem pcReset_addrIn : (pcReset s).addrIn = s.addrIn := rfl
@[simp] theorem pcReset_addrCmp : (pcReset s).addrCmp = s.addrCmp := rfl
@[simp] theorem pcReset_addrOut : (pcReset s).addrOut = s.addrOut := rfl
@[simp] theorem pcReset_spBuf : (pcReset s).spBuf = s.spBuf := rfl
@[simp] theorem pcReset_asAddr : (pcReset s).asAddr = s.asAddr := rfl
@[simp] theorem pcReset_asJunction : (pcReset s).asJunction = s.asJunction := rfl
@[simp] theorem pcReset_seq : (pcReset s).seq = s.seq := rfl
@[simp] theorem pcReset_params : (pcReset s).params = s.params := rfl
@[simp] theorem pcReset_trace :
    (pcReset s).trace = s.trace ++ (pendingRelease s ++ [.reset (presenceAnswer s)]) := rfl
@[simp] theorem pcReset_reads : (pcReset s).reads = s.reads := rfl
@[simp] theorem pcReset_clock : (pcReset s).clock = s.clock := rfl
@[simp] theorem pcReset_addrDraws : (pcReset s).addrDraws = s.addrDraws := rfl
@[simp] theorem pcReset_quantum : (pcReset s).quantum = s.quantum := rfl
@[simp] theorem pcReset_busy : (pcReset s).status.busy = s.status.busy := rfl
@[simp] theorem pcReset_result : (pcReset s).status.result = s.status.result := rfl
@[simp] theorem pcReset_illegal : (pcReset s).status.illegal = s.status.illegal := rfl
@[simp] theorem pcReset_overrun : (pcReset s).status.overrun = s.status.overrun := rfl
@[simp] theorem pcReset_addrCrcErr : (pcReset s).status.addrCrcErr = s.status.addrCrcErr := rfl
@[simp] theorem pcReset_parasite : (pcReset s).status.parasite = s.status.parasite := rfl
@[simp] theorem pcReset_pullupOn : (pcReset s).status.pullupOn = false := rfl
@[simp] theorem pcReset_asExhausted : (pcReset s).status.asExhausted = s.status.asExhausted := rfl
@[simp] theorem pcReset_turns : (pcReset s).env.turns = s.env.turns := rfl
@[simp] theorem pcReset_presence : (pcReset s).env.presence = restAnswers s.env.presence := rfl
@[simp] theorem pcReset_bytes : (pcReset s).env.bytes = s.env.bytes := rfl
@[simp] theorem pcReset_bits : (pcReset s).env.bits = s.env.bits := rfl
@[simp] theorem pcReset_found : (pcReset s).env.found = s.env.found := rfl
@[simp] theorem pcReset_ticks : (pcReset s).env.ticks = s.env.ticks := rfl

/-! ### pcReadBit -/

@[simp] theorem pcReadBit_lastCmd : (pcReadBit s).lastCmd = s.lastCmd := rfl
@[simp] theorem pcReadBit_ctrl : (pcReadBit s).ctrl = s.ctrl := rfl
@[simp] theorem pcReadBit_arg : (pcReadBit s).arg = s.arg := rfl
@[simp] theorem pcReadBit_handlerId : (pcReadBit s).handlerId = s.handlerId := rfl
@[simp] theorem pcReadBit_globalRes : (pcReadBit s).globalRes = s.globalRes := rfl
@[simp] theorem pcReadBit_deviceCount : (pcReadBit s).deviceCount = s.deviceCount := rfl
@[simp] theorem pcReadBit_resOut : (pcReadBit s).resOut = s.resOut := rfl
@[simp] theorem pcReadBit_alarmT : (pcReadBit s).alarmT = s.alarmT := rfl
@[simp] theorem pcReadBit_crcAcc : (pcReadBit s).crcAcc = s.crcAcc := rfl
@[simp] theorem pcReadBit_phase : (pcReadBit s).phase = s.phase := rfl
@[simp] theorem pcReadBit_tempFp : (pcReadBit s).tempFp = s.tempFp := rfl
@[simp] theorem pcReadBit_addrIn : (pcReadBit s).addrIn = s.addrIn := rfl
@[simp] theorem pcReadBit_addrCmp : (pcReadBit s).addrCmp = s.addrCmp := rfl
@[simp] theorem pcReadBit_addrOut : (pcReadBit s).addrOut = s.addrOut := rfl
@[simp] theorem pcReadBit_spBuf : (pcReadBit s).spBuf = s.spBuf := rfl
@[simp] theorem pcReadBit_asAddr : (pcReadBit s).asAddr = s.asAddr := rfl
@[simp] theorem pcReadBit_asJunction : (pcReadBit s).asJunction = s.asJunction := rfl
@[simp] theorem pcReadBit_seq : (pcReadBit s).seq = s.seq := rfl
@[simp] theorem pcReadBit_params : (pcReadBit s).params = s.params := rfl
@[simp] theorem pcReadBit_trace :
    (pcReadBit s).trace = s.trace ++ (pendingRelease s ++ [.readBit (bitAnswer s)]) := rfl
@[simp] theorem pcReadBit_reads : (pcReadBit s).reads = s.reads := rfl
@[simp] theorem pcReadBit_clock : (pcReadBit s).clock = s.clock := rfl
@[simp] theorem pcReadBit_addrDraws : (pcReadBit s).addrDraws = s.addrDraws := rfl
@[simp] theorem pcReadBit_quantum : (pcReadBit s).quantum = s.quantum := rfl
@[simp] theorem pcReadBit_busy : (pcReadBit s).status.busy = s.status.busy := rfl
@[simp] theorem pcReadBit_result : (pcReadBit s).status.result = s.status.result := rfl
@[simp] theorem pcReadBit_illegal : (pcReadBit s).status.illegal = s.status.illegal := rfl
@[simp] theorem pcReadBit_overrun : (pcReadBit s).status.overrun = s.status.overrun := rfl
@[simp] theorem pcReadBit_addrCrcErr : (pcReadBit s).status.addrCrcErr = s.status.addrCrcErr := rfl
@[simp] theorem pcReadBit_parasite : (pcReadBit s).status.parasite = s.status.parasite := rfl
@[simp] theorem pcReadBit_pullupOn : (pcReadBit s).status.pullupOn = false := rfl
@[simp] theorem pcReadBit_asExhausted : (pcReadBit s).status.asExhausted = s.status.asExhausted := rfl
@[simp] theorem pcReadBit_turns : (pcReadBit s).env.turns = s.env.turns := rfl
@[simp] theorem pcReadBit_presence : (pcReadBit s).env.presence = s.env.presence := rfl
@[simp] theorem pcReadBit_bytes : (pcReadBit s).env.bytes = s.env.bytes := rfl
@[simp] theorem pcReadBit_bits : (pcReadBit s).env.bits = restAnswers s.env.bits := rfl
@[simp] theorem pcReadBit_found : (pcReadBit s).env.found = s.env.found := rfl
@[simp] theorem pcReadBit_ticks : (pcReadBit s).env.ticks = s.env.ticks := rfl

/-! ### pcSearchNext -/

@[simp] theorem pcSearchNext_lastCmd : (pcSearchNext s).lastCmd = s.lastCmd := rfl
@[simp] theorem pcSearchNext_ctrl : (pcSearchNext s).ctrl = s.ctrl := rfl
@[simp] theorem pcSearchNext_arg : (pcSearchNext s).arg = s.arg := rfl
@[simp] theorem pcSearchNext_handlerId : (pcSearchNext s).handlerId = s.handlerId := rfl
@[simp] theorem pcSearchNext_globalRes : (pcSearchNext s).globalRes = s.globalRes := rfl
@[simp] theorem pcSearchNext_deviceCount : (pcSearchNext s).deviceCount = s.deviceCount := rfl
@[simp] theorem pcSearchNext_resOut : (pcSearchNext s).resOut = s.resOut := rfl
@[simp] theorem pcSearchNext_alarmT : (pcSearchNext s).alarmT = s.alarmT := rfl
@[simp] theorem pcSearchNext_crcAcc : (pcSearchNext s).crcAcc = s.crcAcc := rfl
@[simp] theorem pcSearchNext_phase : (pcSearchNext s).phase = s.phase := rfl
@[simp] theorem pcSearchNext_tempFp : (pcSearchNext s).tempFp = s.tempFp := rfl
@[simp] theorem pcSearchNext_addrIn : (pcSearchNext s).addrIn = s.addrIn := rfl
@[simp] theorem pcSearchNext_addrCmp : (pcSearchNext s).addrCmp = s.addrCmp := rfl
@[simp] theorem pcSearchNext_addrOut : (pcSearchNext s).addrOut = s.addrOut := rfl
@[simp] theorem pcSearchNext_spBuf : (pcSearchNext s).spBuf = s.spBuf := rfl
@[simp] theorem pcSearchNext_asAddr : (pcSearchNext s).asAddr = s.asAddr := rfl
@[simp] theorem pcSearchNext_asJunction : (pcSearchNext s).asJunction = s.asJunction := rfl
@[simp] theorem pcSearchNext_seq : (pcSearchNext s).seq = s.seq := rfl
@[simp] theorem pcSearchNext_params : (pcSearchNext s).params = s.params := rfl
@[simp] theorem pcSearchNext_trace :
    (pcSearchNext s).trace = s.trace ++ (pendingRelease s ++ [.searchNext (foundAnswer s)]) := rfl
@[simp] theorem pcSearchNext_reads : (pcSearchNext s).reads = s.reads := rfl
@[simp] theorem pcSearchNext_clock : (pcSearchNext s).clock = s.clock := rfl
@[simp] theorem pcSearchNext_addrDraws : (pcSearchNext s).addrDraws = s.addrDraws := rfl
@[simp] theorem pcSearchNext_quantum : (pcSearchNext s).quantum = s.quantum := rfl
@[simp] theorem pcSearchNext_busy : (pcSearchNext s).status.busy = s.status.busy := rfl
@[simp] theorem pcSearchNext_result : (pcSearchNext s).status.result = s.status.result := rfl
@[simp] theorem pcSearchNext_illegal : (pcSearchNext s).status.illegal = s.status.illegal := rfl
@[simp] theorem pcSearchNext_overrun : (pcSearchNext s).status.overrun = s.status.overrun := rfl
@[simp] theorem pcSearchNext_addrCrcErr : (pcSearchNext s).status.addrCrcErr = s.status.addrCrcErr := rfl
@[simp] theorem pcSearchNext_parasite : (pcSearchNext s).status.parasite = s.status.parasite := rfl
@[simp] theorem pcSearchNext_pullupOn : (pcSearchNext s).status.pullupOn = false := rfl
@[simp] theorem pcSearchNext_asExhausted : (pcSearchNext s).status.asExhausted = s.status.asExhausted := rfl
@[simp] theorem pcSearchNext_turns : (pcSearchNext s).env.turns = s.env.turns := rfl
@[simp] theorem pcSearchNext_presence : (pcSearchNext s).env.presence = s.env.presence := rfl
@[simp] theorem pcSearchNext_bytes : (pcSearchNext s).env.bytes = s.env.bytes := rfl
@[simp] theorem pcSearchNext_bits : (pcSearchNext s).env.bits = s.env.bits := rfl
@[simp] theorem pcSearchNext_found : (pcSearchNext s).env.found = restAnswers s.env.found := rfl
@[simp] theorem pcSearchNext_ticks : (pcSearchNext s).env.ticks = s.env.ticks := rfl

/-! ### pcReadPad -/

@[simp] theorem pcReadPad_lastCmd (a : Addr) : (pcReadPad a s).lastCmd = s.lastCmd := rfl
@[simp] theorem pcReadPad_ctrl (a : Addr) : (pcReadPad a s).ctrl = s.ctrl := rfl
@[simp] theorem pcReadPad_arg (a : Addr) : (pcReadPad a s).arg = s.arg := rfl
@[simp] theorem pcReadPad_handlerId (a : Addr) : (pcReadPad a s).handlerId = s.handlerId := rfl
@[simp] theorem pcReadPad_globalRes (a : Addr) : (pcReadPad a s).globalRes = s.globalRes := rfl
@[simp] theorem pcReadPad_deviceCount (a : Addr) : (pcReadPad a s).deviceCount = s.deviceCount := rfl
@[simp] theorem pcReadPad_resOut (a : Addr) : (pcReadPad a s).resOut = s.resOut := rfl
@[simp] theorem pcReadPad_alarmT (a : Addr) : (pcReadPad a s).alarmT = s.alarmT := rfl
@[simp] theorem pcReadPad_crcAcc (a : Addr) : (pcReadPad a s).crcAcc = s.crcAcc := rfl
@[simp] theorem pcReadPad_phase (a : Addr) : (pcReadPad a s).phase = s.phase := rfl
@[simp] theorem pcReadPad_tempFp (a : Addr) : (pcReadPad a s).tempFp = s.tempFp := rfl
@[simp] theorem pcReadPad_addrIn (a : Addr) : (pcReadPad a s).addrIn = s.addrIn := rfl
@[simp] theorem pcReadPad_addrCmp (a : Addr) : (pcReadPad a s).addrCmp = s.addrCmp := rfl
@[simp] theorem pcReadPad_addrOut (a : Addr) : (pcReadPad a s).addrOut = s.addrOut := rfl
@[simp] theorem pcReadPad_spBuf (a : Addr) : (pcReadPad a s).spBuf = s.spBuf := rfl
@[simp] theorem pcReadPad_asAddr (a : Addr) : (pcReadPad a s).asAddr = s.asAddr := rfl
@[simp] theorem pcReadPad_asJunction (a : Addr) : (pcReadPad a s).asJunction = s.asJunction := rfl
@[simp] theorem pcReadPad_seq (a : Addr) : (pcReadPad a s).seq = s.seq := rfl
@[simp] theorem pcReadPad_params (a : Addr) : (pcReadPad a s).params = s.params := rfl
@[simp] theorem pcReadPad_trace (a : Addr) :
    (pcReadPad a s).trace = s.trace ++ (pendingRelease s ++ readPadEvents s a) := rfl
@[simp] theorem pcReadPad_reads (a : Addr) : (pcReadPad a s).reads = s.reads := rfl
@[simp] theorem pcReadPad_clock (a : Addr) : (pcReadPad a s).clock = s.clock := rfl
@[simp] theorem pcReadPad_addrDraws (a : Addr) : (pcReadPad a s).addrDraws = s.addrDraws := rfl
@[simp] theorem pcReadPad_quantum (a : Addr) : (pcReadPad a s).quantum = s.quantum := rfl
@[simp] theorem pcReadPad_busy (a : Addr) : (pcReadPad a s).status.busy = s.status.busy := rfl
@[simp] theorem pcReadPad_result (a : Addr) : (pcReadPad a s).status.result = s.status.result := rfl
@[simp] theorem pcReadPad_illegal (a : Addr) : (pcReadPad a s).status.illegal = s.status.illegal := rfl
@[simp] theorem pcReadPad_overrun (a : Addr) : (pcReadPad a s).status.overrun = s.status.overrun := rfl
@[simp] theorem pcReadPad_addrCrcErr (a : Addr) : (pcReadPad a s).status.addrCrcErr = s.status.addrCrcErr := rfl
@[simp] theorem pcReadPad_parasite (a : Addr) : (pcReadPad a s).status.parasite = s.status.parasite := rfl
@[simp] theorem pcReadPad_pullupOn (a : Addr) : (pcReadPad a s).status.pullupOn = false := rfl
@[simp] theorem pcReadPad_asExhausted (a : Addr) : (pcReadPad a s).status.asExhausted = s.status.asExhausted := rfl
@[simp] theorem pcReadPad_turns (a : Addr) : (pcReadPad a s).env.turns = s.env.turns := rfl
@[simp] theorem pcReadPad_presence (a : Addr) : (pcReadPad a s).env.presence = restAnswers s.env.presence := rfl
@[simp] theorem pcReadPad_bytes (a : Addr) : (pcReadPad a s).env.bytes = skipAnswers 9 s.env.bytes := rfl
@[simp] theorem pcReadPad_bits (a : Addr) : (pcReadPad a s).env.bits = s.env.bits := rfl
@[simp] theorem pcReadPad_found (a : Addr) : (pcReadPad a s).env.found = s.env.found := rfl
@[simp] theorem pcReadPad_ticks (a : Addr) : (pcReadPad a s).env.ticks = s.env.ticks := rfl

/-! ### pcWriteBytes -/

@[simp] theorem pcWriteBytes_lastCmd (a : Addr) (sp : Pad) : (pcWriteBytes a sp s).lastCmd = s.lastCmd := by
  simp [pcWriteBytes]
@[simp] theorem pcWriteBytes_ctrl (a : Addr) (sp : Pad) : (pcWriteBytes a sp s).ctrl = s.ctrl := by
  simp [pcWriteBytes]
@[simp] theorem pcWriteBytes_arg (a : Addr) (sp : Pad) : (pcWriteBytes a sp s).arg = s.arg := by simp [pcWriteBytes]
@[simp] theorem pcWriteBytes_handlerId (a : Addr) (sp : Pad) : (pcWriteBytes a sp s).handlerId = s.handlerId := by
  simp [pcWriteBytes]
@[simp] theorem pcWriteBytes_globalRes (a : Addr) (sp : Pad) : (pcWriteBytes a sp s).globalRes = s.globalRes := by
  simp [pcWriteBytes]
@[simp] theorem pcWriteBytes_deviceCount (a : Addr) (sp : Pad) : (pcWriteBytes a sp s).deviceCount = s.deviceCount := by
  simp [pcWriteBytes]
@[simp] theorem pcWriteBytes_resOut (a : Addr) (sp : Pad) : (pcWriteBytes a sp s).resOut = s.resOut := by
  simp [pcWriteBytes]
@[simp] theorem pcWriteBytes_alarmT (a : Addr) (sp : Pad) : (pcWriteBytes a sp s).alarmT = s.alarmT := by
  simp [pcWriteBytes]
@[simp] theorem pcWriteBytes_crcAcc (a : Addr) (sp : Pad) : (pcWriteBytes a sp s).crcAcc = s.crcAcc := by
  simp [pcWriteBytes]
@[simp] theorem pcWriteBytes_phase (a : Addr) (sp : Pad) : (pcWriteBytes a sp s).phase = s.phase := by
  simp [pcWriteBytes]
@[simp] theorem pcWriteBytes_tempFp (a : Addr) (sp : Pad) : (pcWriteBytes a sp s).tempFp = s.tempFp := by
  simp [pcWriteBytes]
@[simp] theorem pcWriteBytes_addrIn (a : Addr) (sp : Pad) : (pcWriteBytes a sp s).addrIn = s.addrIn := by
  simp [pcWriteBytes]
@[simp] theorem pcWriteBytes_addrCmp (a : Addr) (sp : Pad) : (pcWriteBytes a sp s).addrCmp = s.addrCmp := by
  simp [pcWriteBytes]
@[simp] theorem pcWriteBytes_addrOut (a : Addr) (sp : Pad) : (pcWriteBytes a sp s).addrOut = s.addrOut := by
  simp [pcWriteBytes]
@[simp] theorem pcWriteBytes_spBuf (a : Addr) (sp : Pad) : (pcWriteBytes a sp s).spBuf = s.spBuf := by
  simp [pcWriteBytes]
@[simp] theorem pcWriteBytes_asAddr (a : Addr) (sp : Pad) : (pcWriteBytes a sp s).asAddr = s.asAddr := by
  simp [pcWriteBytes]
@[simp] theorem pcWriteBytes_asJunction (a : Addr) (sp : Pad) : (pcWriteBytes a sp s).asJunction = s.asJunction := by
  simp [pcWriteBytes]
@[simp] theorem pcWriteBytes_seq (a : Addr) (sp : Pad) : (pcWriteBytes a sp s).seq = s.seq := by simp [pcWriteBytes]
@[simp] theorem pcWriteBytes_params (a : Addr) (sp : Pad) : (pcWriteBytes a sp s).params = s.params := by
  simp [pcWriteBytes]
@[simp] theorem pcWriteBytes_reads (a : Addr) (sp : Pad) : (pcWriteBytes a sp s).reads = s.reads := by
  simp [pcWriteBytes]
@[simp] theorem pcWriteBytes_addrDraws (a : Addr) (sp : Pad) : (pcWriteBytes a sp s).addrDraws = s.addrDraws := by
  simp [pcWriteBytes]
@[simp] theorem pcWriteBytes_quantum (a : Addr) (sp : Pad) : (pcWriteBytes a sp s).quantum = s.quantum := by
  simp [pcWriteBytes]
@[simp] theorem pcWriteBytes_busy (a : Addr) (sp : Pad) : (pcWriteBytes a sp s).status.busy = s.status.busy := by
  simp [pcWriteBytes]
@[simp] theorem pcWriteBytes_result (a : Addr) (sp : Pad) : (pcWriteBytes a sp s).status.result = s.status.result := by
  simp [pcWriteBytes]
@[simp] theorem pcWriteBytes_illegal (a : Addr) (sp : Pad) : (pcWriteBytes a sp s).status.illegal = s.status.illegal := by
  simp [pcWriteBytes]
@[simp] theorem pcWriteBytes_overrun (a : Addr) (sp : Pad) : (pcWriteBytes a sp s).status.overrun = s.status.overrun := by
  simp [pcWriteBytes]
@[simp] theorem pcWriteBytes_addrCrcErr (a : Addr) (sp : Pad) : (pcWriteBytes a sp s).status.addrCrcErr = s.status.addrCrcErr := by
  simp [pcWriteBytes]
@[simp] theorem pcWriteBytes_parasite (a : Addr) (sp : Pad) : (pcWriteBytes a sp s).status.parasite = s.status.parasite := by
  simp [pcWriteBytes]
@[simp] theorem pcWriteBytes_asExhausted (a : Addr) (sp : Pad) : (pcWriteBytes a sp s).status.asExhausted = s.status.asExhausted := by
  simp [pcWriteBytes]

/-! ### pcCopy -/

@[simp] theorem pcCopy_lastCmd (a : Addr) : (pcCopy a s).lastCmd = s.lastCmd := by
  unfold pcCopy; simp only []; split <;> simp
@[simp] theorem pcCopy_ctrl (a : Addr) : (pcCopy a s).ctrl = s.ctrl := by unfold pcCopy; simp only []; split <;> simp
@[simp] theorem pcCopy_arg (a : Addr) : (pcCopy a s).arg = s.arg := by unfold pcCopy; simp only []; split <;> simp
@[simp] theorem pcCopy_handlerId (a : Addr) : (pcCopy a s).handlerId = s.handlerId := by
  unfold pcCopy; simp only []; split <;> simp
@[simp] theorem pcCopy_globalRes (a : Addr) : (pcCopy a s).globalRes = s.globalRes := by
  unfold pcCopy; simp only []; split <;> simp
@[simp] theorem pcCopy_deviceCount (a : Addr) : (pcCopy a s).deviceCount = s.deviceCount := by
  unfold pcCopy; simp only []; split <;> simp
@[simp] theorem pcCopy_resOut (a : Addr) : (pcCopy a s).resOut = s.resOut := by
  unfold pcCopy; simp only []; split <;> simp
@[simp] theorem pcCopy_alarmT (a : Addr) : (pcCopy a s).alarmT = s.alarmT := by
  unfold pcCopy; simp only []; split <;> simp
@[simp] theorem pcCopy_crcAcc (a : Addr) : (pcCopy a s).crcAcc = s.crcAcc := by
  unfold pcCopy; simp only []; split <;> simp
@[simp] theorem pcCopy_phase (a : Addr) : (pcCopy a s).phase = s.phase := by
  unfold pcCopy; simp only []; split <;> simp
@[simp] theorem pcCopy_tempFp (a : Addr) : (pcCopy a s).tempFp = s.tempFp := by
  unfold pcCopy; simp only []; split <;> simp
@[simp] theorem pcCopy_addrIn (a : Addr) : (pcCopy a s).addrIn = s.addrIn := by
  unfold pcCopy; simp only []; split <;> simp
@[simp] theorem pcCopy_addrCmp (a : Addr) : (pcCopy a s).addrCmp = s.addrCmp := by
  unfold pcCopy; simp only []; split <;> simp
@[simp] theorem pcCopy_addrOut (a : Addr) : (pcCopy a s).addrOut = s.addrOut := by
  unfold pcCopy; simp only []; split <;> simp
@[simp] theorem pcCopy_spBuf (a : Addr) : (pcCopy a s).spBuf = s.spBuf := by
  unfold pcCopy; simp only []; split <;> simp
@[simp] theorem pcCopy_asAddr (a : Addr) : (pcCopy a s).asAddr = s.asAddr := by
  unfold pcCopy; simp only []; split <;> simp
@[simp] theorem pcCopy_asJunction (a : Addr) : (pcCopy a s).asJunction = s.asJunction := by
  unfold pcCopy; simp only []; split <;> simp
@[simp] theorem pcCopy_seq (a : Addr) : (pcCopy a s).seq = s.seq := by unfold pcCopy; simp only []; split <;> simp
@[simp] theorem pcCopy_params (a : Addr) : (pcCopy a s).params = s.params := by
  unfold pcCopy; simp only []; split <;> simp
@[simp] theorem pcCopy_reads (a : Addr) : (pcCopy a s).reads = s.reads := by
  unfold pcCopy; simp only []; split <;> simp
@[simp] theorem pcCopy_addrDraws (a : Addr) : (pcCopy a s).addrDraws = s.addrDraws := by
  unfold pcCopy; simp only []; split <;> simp
@[simp] theorem pcCopy_quantum (a : Addr) : (pcCopy a s).quantum = s.quantum := by
  unfold pcCopy; simp only []; split <;> simp
@[simp] theorem pcCopy_busy (a : Addr) : (pcCopy a s).status.busy = s.status.busy := by
  unfold pcCopy; simp only []; split <;> simp
@[simp] theorem pcCopy_result (a : Addr) : (pcCopy a s).status.result = s.status.result := by
  unfold pcCopy; simp only []; split <;> simp
@[simp] theorem pcCopy_illegal (a : Addr) : (pcCopy a s).status.illegal = s.status.illegal := by
  unfold pcCopy; simp only []; split <;> simp
@[simp] theorem pcCopy_overrun (a : Addr) : (pcCopy a s).status.overrun = s.status.overrun := by
  unfold pcCopy; simp only []; split <;> simp
@[simp] theorem pcCopy_addrCrcErr (a : Addr) : (pcCopy a s).status.addrCrcErr = s.status.addrCrcErr := by
  unfold pcCopy; simp only []; split <;> simp
@[simp] theorem pcCopy_parasite (a : Addr) : (pcCopy a s).status.parasite = s.status.parasite := by
  unfold pcCopy; simp only []; split <;> simp
@[simp] theorem pcCopy_asExhausted (a : Addr) : (pcCopy a s).status.asExhausted = s.status.asExhausted := by
  unfold pcCopy; simp only []; split <;> simp

/-! ### pcWritePad -/

@[simp] theorem pcWritePad_lastCmd (a : Addr) (sp : Pad) : (pcWritePad a sp s).lastCmd = s.lastCmd := by
  unfold pcWritePad; split <;> simp
@[simp] theorem pcWritePad_ctrl (a : Addr) (sp : Pad) : (pcWritePad a sp s).ctrl = s.ctrl := by
  unfold pcWritePad; split <;> simp
@[simp] theorem pcWritePad_arg (a : Addr) (sp : Pad) : (pcWritePad a sp s).arg = s.arg := by
  unfold pcWritePad; split <;> simp
@[simp] theorem pcWritePad_handlerId (a : Addr) (sp : Pad) : (pcWritePad a sp s).handlerId = s.handlerId := by
  unfold pcWritePad; split <;> simp
@[simp] theorem pcWritePad_globalRes (a : Addr) (sp : Pad) : (pcWritePad a sp s).globalRes = s.globalRes := by
  unfold pcWritePad; split <;> simp
@[simp] theorem pcWritePad_deviceCount (a : Addr) (sp : Pad) : (pcWritePad a sp s).deviceCount = s.deviceCount := by
  unfold pcWritePad; split <;> simp
@[simp] theorem pcWritePad_resOut (a : Addr) (sp : Pad) : (pcWritePad a sp s).resOut = s.resOut := by
  unfold pcWritePad; split <;> simp
@[simp] theorem pcWritePad_alarmT (a : Addr) (sp : Pad) : (pcWritePad a sp s).alarmT = s.alarmT := by
  unfold pcWritePad; split <;> simp
@[simp] theorem pcWritePad_crcAcc (a : Addr) (sp : Pad) : (pcWritePad a sp s).crcAcc = s.crcAcc := by
  unfold pcWritePad; split <;> simp
@[simp] theorem pcWritePad_phase (a : Addr) (sp : Pad) : (pcWritePad a sp s).phase = s.phase := by
  unfold pcWritePad; split <;> simp
@[simp] theorem pcWritePad_tempFp (a : Addr) (sp : Pad) : (pcWritePad a sp s).tempFp = s.tempFp := by
  unfold pcWritePad; split <;> simp
@[simp] theorem pcWritePad_addrIn (a : Addr) (sp : Pad) : (pcWritePad a sp s).addrIn = s.addrIn := by
  unfold pcWritePad; split <;> simp
@[simp] theorem pcWritePad_addrCmp (a : Addr) (sp : Pad) : (pcWritePad a sp s).addrCmp = s.addrCmp := by
  unfold pcWritePad; split <;> simp
@[simp] theorem pcWritePad_addrOut (a : Addr) (sp : Pad) : (pcWritePad a sp s).addrOut = s.addrOut := by
  unfold pcWritePad; split <;> simp
@[simp] theorem pcWritePad_spBuf (a : Addr) (sp : Pad) : (pcWritePad a sp s).spBuf = s.spBuf := by
  unfold pcWritePad; split <;> simp
@[simp] theorem pcWritePad_asAddr (a : Addr) (sp : Pad) : (pcWritePad a sp s).asAddr = s.asAddr := by
  unfold pcWritePad; split <;> simp
@[simp] theorem pcWritePad_asJunction (a : Addr) (sp : Pad) : (pcWritePad a sp s).asJunction = s.asJunction := by
  unfold pcWritePad; split <;> simp
@[simp] theorem pcWritePad_seq (a : Addr) (sp : Pad) : (pcWritePad a sp s).seq = s.seq := by
  unfold pcWritePad; split <;> simp
@[simp] theorem pcWritePad_params (a : Addr) (sp : Pad) : (pcWritePad a sp s).params = s.params := by
  unfold pcWritePad; split <;> simp
@[simp] theorem pcWritePad_reads (a : Addr) (sp : Pad) : (pcWritePad a sp s).reads = s.reads := by
  unfold pcWritePad; split <;> simp
@[simp] theorem pcWritePad_addrDraws (a : Addr) (sp : Pad) : (pcWritePad a sp s).addrDraws = s.addrDraws := by
  unfold pcWritePad; split <;> simp
@[simp] theorem pcWritePad_quantum (a : Addr) (sp : Pad) : (pcWritePad a sp s).quantum = s.quantum := by
  unfold pcWritePad; split <;> simp
@[simp] theorem pcWritePad_busy (a : Addr) (sp : Pad) : (pcWritePad a sp s).status.busy = s.status.busy := by
  unfold pcWritePad; split <;> simp
@[simp] theorem pcWritePad_result (a : Addr) (sp : Pad) : (pcWritePad a sp s).status.result = s.status.result := by
  unfold pcWritePad; split <;> simp
@[simp] theorem pcWritePad_illegal (a : Addr) (sp : Pad) : (pcWritePad a sp s).status.illegal = s.status.illegal := by
  unfold pcWritePad; split <;> simp
@[simp] theorem pcWritePad_overrun (a : Addr) (sp : Pad) : (pcWritePad a sp s).status.overrun = s.status.overrun := by
  unfold pcWritePad; split <;> simp
@[simp] theorem pcWritePad_addrCrcErr (a : Addr) (sp : Pad) : (pcWritePad a sp s).status.addrCrcErr = s.status.addrCrcErr := by
  unfold pcWritePad; split <;> simp
@[simp] theorem pcWritePad_parasite (a : Addr) (sp : Pad) : (pcWritePad a sp s).status.parasite = s.status.parasite := by
  unfold pcWritePad; split <;> simp
@[simp] theorem pcWritePad_asExhausted (a : Addr) (sp : Pad) : (pcWritePad a sp s).status.asExhausted = s.status.asExhausted := by
  unfold pcWritePad; split <;> simp

/-! ### pcReadPower -/

@[simp] theorem pcReadPower_lastCmd (a : Addr) : (pcReadPower a s).lastCmd = s.lastCmd := by simp [pcReadPower]
@[simp] theorem pcReadPower_ctrl (a : Addr) : (pcReadPower a s).ctrl = s.ctrl := by simp [pcReadPower]
@[simp] theorem pcReadPower_arg (a : Addr) : (pcReadPower a s).arg = s.arg := by simp [pcReadPower]
@[simp] theorem pcReadPower_handlerId (a : Addr) : (pcReadPower a s).handlerId = s.handlerId := by simp [pcReadPower]
@[simp] theorem pcReadPower_globalRes (a : Addr) : (pcReadPower a s).globalRes = s.globalRes := by simp [pcReadPower]
@[simp] theorem pcReadPower_deviceCount (a : Addr) : (pcReadPower a s).deviceCount = s.deviceCount := by
  simp [pcReadPower]
@[simp] theorem pcReadPower_resOut (a : Addr) : (pcReadPower a s).resOut = s.resOut := by simp [pcReadPower]
@[simp] theorem pcReadPower_alarmT (a : Addr) : (pcReadPower a s).alarmT = s.alarmT := by simp [pcReadPower]
@[simp] theorem pcReadPower_crcAcc (a : Addr) : (pcReadPower a s).crcAcc = s.crcAcc := by simp [pcReadPower]
@[simp] theorem pcReadPower_phase (a : Addr) : (pcReadPower a s).phase = s.phase := by simp [pcReadPower]
@[simp] theorem pcReadPower_tempFp (a : Addr) : (pcReadPower a s).tempFp = s.tempFp := by simp [pcReadPower]
@[simp] theorem pcReadPower_addrIn (a : Addr) : (pcReadPower a s).addrIn = s.addrIn := by simp [pcReadPower]
@[simp] theorem pcReadPower_addrCmp (a : Addr) : (pcReadPower a s).addrCmp = s.addrCmp := by simp [pcReadPower]
@[simp] theorem pcReadPower_addrOut (a : Addr) : (pcReadPower a s).addrOut = s.addrOut := by simp [pcReadPower]
@[simp] theorem pcReadPower_spBuf (a : Addr) : (pcReadPower a s).spBuf = s.spBuf := by simp [pcReadPower]
@[simp] theorem pcReadPower_asAddr (a : Addr) : (pcReadPower a s).asAddr = s.asAddr := by simp [pcReadPower]
@[simp] theorem pcReadPower_asJunction (a : Addr) : (pcReadPower a s).asJunction = s.asJunction := by
  simp [pcReadPower]
@[simp] theorem pcReadPower_seq (a : Addr) : (pcReadPower a s).seq = s.seq := by simp [pcReadPower]
@[simp] theorem pcReadPower_params (a : Addr) : (pcReadPower a s).params = s.params := by simp [pcReadPower]
@[simp] theorem pcReadPower_reads (a : Addr) : (pcReadPower a s).reads = s.reads := by simp [pcReadPower]
@[simp] theorem pcReadPower_addrDraws (a : Addr) : (pcReadPower a s).addrDraws = s.addrDraws := by simp [pcReadPower]
@[simp] theorem pcReadPower_quantum (a : Addr) : (pcReadPower a s).quantum = s.quantum := by simp [pcReadPower]
@[simp] theorem pcReadPower_busy (a : Addr) : (pcReadPower a s).status.busy = s.status.busy := by simp [pcReadPower]
@[simp] theorem pcReadPower_result (a : Addr) : (pcReadPower a s).status.result = s.status.result := by
  simp [pcReadPower]
@[simp] theorem pcReadPower_illegal (a : Addr) : (pcReadPower a s).status.illegal = s.status.illegal := by
  simp [pcReadPower]
@[simp] theorem pcReadPower_overrun (a : Addr) : (pcReadPower a s).status.overrun = s.status.overrun := by
  simp [pcReadPower]
@[simp] theorem pcReadPower_addrCrcErr (a : Addr) : (pcReadPower a s).status.addrCrcErr = s.status.addrCrcErr := by
  simp [pcReadPower]
@[simp] theorem pcReadPower_parasite (a : Addr) : (pcReadPower a s).status.parasite = s.status.parasite := by
  simp [pcReadPower]
@[simp] theorem pcReadPower_asExhausted (a : Addr) : (pcReadPower a s).status.asExhausted = s.status.asExhausted := by
  simp [pcReadPower]

/-! ### pcGetRes -/

@[simp] theorem pcGetRes_lastCmd (a : Addr) : (pcGetRes a s).lastCmd = s.lastCmd := by unfold pcGetRes; split <;> simp
@[simp] theorem pcGetRes_ctrl (a : Addr) : (pcGetRes a s).ctrl = s.ctrl := by unfold pcGetRes; split <;> simp
@[simp] theorem pcGetRes_arg (a : Addr) : (pcGetRes a s).arg = s.arg := by unfold pcGetRes; split <;> simp
@[simp] theorem pcGetRes_handlerId (a : Addr) : (pcGetRes a s).handlerId = s.handlerId := by
  unfold pcGetRes; split <;> simp
@[simp] theorem pcGetRes_globalRes (a : Addr) : (pcGetRes a s).globalRes = s.globalRes := by
  unfold pcGetRes; split <;> simp
@[simp] theorem pcGetRes_deviceCount (a : Addr) : (pcGetRes a s).deviceCount = s.deviceCount := by
  unfold pcGetRes; split <;> simp
@[simp] theorem pcGetRes_resOut (a : Addr) : (pcGetRes a s).resOut = s.resOut := by unfold pcGetRes; split <;> simp
@[simp] theorem pcGetRes_alarmT (a : Addr) : (pcGetRes a s).alarmT = s.alarmT := by unfold pcGetRes; split <;> simp
@[simp] theorem pcGetRes_crcAcc (a : Addr) : (pcGetRes a s).crcAcc = s.crcAcc := by unfold pcGetRes; split <;> simp
@[simp] theorem pcGetRes_phase (a : Addr) : (pcGetRes a s).phase = s.phase := by unfold pcGetRes; split <;> simp
@[simp] theorem pcGetRes_tempFp (a : Addr) : (pcGetRes a s).tempFp = s.tempFp := by unfold pcGetRes; split <;> simp
@[simp] theorem pcGetRes_addrIn (a : Addr) : (pcGetRes a s).addrIn = s.addrIn := by unfold pcGetRes; split <;> simp
@[simp] theorem pcGetRes_addrCmp (a : Addr) : (pcGetRes a s).addrCmp = s.addrCmp := by unfold pcGetRes; split <;> simp
@[simp] theorem pcGetRes_addrOut (a : Addr) : (pcGetRes a s).addrOut = s.addrOut := by unfold pcGetRes; split <;> simp
@[simp] theorem pcGetRes_spBuf (a : Addr) : (pcGetRes a s).spBuf = s.spBuf := by unfold pcGetRes; split <;> simp
@[simp] theorem pcGetRes_asAddr (a : Addr) : (pcGetRes a s).asAddr = s.asAddr := by unfold pcGetRes; split <;> simp
@[simp] theorem pcGetRes_asJunction (a : Addr) : (pcGetRes a s).asJunction = s.asJunction := by
  unfold pcGetRes; split <;> simp
@[simp] theorem pcGetRes_seq (a : Addr) : (pcGetRes a s).seq = s.seq := by unfold pcGetRes; split <;> simp
@[simp] theorem pcGetRes_params (a : Addr) : (pcGetRes a s).params = s.params := by unfold pcGetRes; split <;> simp
@[simp] theorem pcGetRes_reads (a : Addr) : (pcGetRes a s).reads = s.reads := by unfold pcGetRes; split <;> simp
@[simp] theorem pcGetRes_addrDraws (a : Addr) : (pcGetRes a s).addrDraws = s.addrDraws := by
  unfold pcGetRes; split <;> simp
@[simp] theorem pcGetRes_quantum (a : Addr) : (pcGetRes a s).quantum = s.quantum := by unfold pcGetRes; split <;> simp
@[simp] theorem pcGetRes_busy (a : Addr) : (pcGetRes a s).status.busy = s.status.busy := by
  unfold pcGetRes; split <;> simp
@[simp] theorem pcGetRes_result (a : Addr) : (pcGetRes a s).status.result = s.status.result := by
  unfold pcGetRes; split <;> simp
@[simp] theorem pcGetRes_illegal (a : Addr) : (pcGetRes a s).status.illegal = s.status.illegal := by
  unfold pcGetRes; split <;> simp
@[simp] theorem pcGetRes_overrun (a : Addr) : (pcGetRes a s).status.overrun = s.status.overrun := by
  unfold pcGetRes; split <;> simp
@[simp] theorem pcGetRes_addrCrcErr (a : Addr) : (pcGetRes a s).status.addrCrcErr = s.status.addrCrcErr := by
  unfold pcGetRes; split <;> simp
@[simp] theorem pcGetRes_parasite (a : Addr) : (pcGetRes a s).status.parasite = s.status.parasite := by
  unfold pcGetRes; split <;> simp
@[simp] theorem pcGetRes_asExhausted (a : Addr) : (pcGetRes a s).status.asExhausted = s.status.asExhausted := by
  unfold pcGetRes; split <;> simp

/-! ### pcRewrite -/

@[simp] theorem pcRewrite_lastCmd (a : Addr) (r : Resolution) : (pcRewrite a r s).lastCmd = s.lastCmd := by
  simp [pcRewrite]
@[simp] theorem pcRewrite_ctrl (a : Addr) (r : Resolution) : (pcRewrite a r s).ctrl = s.ctrl := by simp [pcRewrite]
@[simp] theorem pcRewrite_arg (a : Addr) (r : Resolution) : (pcRewrite a r s).arg = s.arg := by simp [pcRewrite]
@[simp] theorem pcRewrite_handlerId (a : Addr) (r : Resolution) : (pcRewrite a r s).handlerId = s.handlerId := by
  simp [pcRewrite]
@[simp] theorem pcRewrite_globalRes (a : Addr) (r : Resolution) : (pcRewrite a r s).globalRes = s.globalRes := by
  simp [pcRewrite]
@[simp] theorem pcRewrite_deviceCount (a : Addr) (r : Resolution) : (pcRewrite a r s).deviceCount = s.deviceCount := by
  simp [pcRewrite]
@[simp] theorem pcRewrite_resOut (a : Addr) (r : Resolution) : (pcRewrite a r s).resOut = s.resOut := by
  simp [pcRewrite]
@[simp] theorem pcRewrite_alarmT (a : Addr) (r : Resolution) : (pcRewrite a r s).alarmT = s.alarmT := by
  simp [pcRewrite]
@[simp] theorem pcRewrite_crcAcc (a : Addr) (r : Resolution) : (pcRewrite a r s).crcAcc = s.crcAcc := by
  simp [pcRewrite]
@[simp] theorem pcRewrite_phase (a : Addr) (r : Resolution) : (pcRewrite a r s).phase = s.phase := by simp [pcRewrite]
@[simp] theorem pcRewrite_tempFp (a : Addr) (r : Resolution) : (pcRewrite a r s).tempFp = s.tempFp := by
  simp [pcRewrite]
@[simp] theorem pcRewrite_addrIn (a : Addr) (r : Resolution) : (pcRewrite a r s).addrIn = s.addrIn := by
  simp [pcRewrite]
@[simp] theorem pcRewrite_addrCmp (a : Addr) (r : Resolution) : (pcRewrite a r s).addrCmp = s.addrCmp := by
  simp [pcRewrite]
@[simp] theorem pcRewrite_addrOut (a : Addr) (r : Resolution) : (pcRewrite a r s).addrOut = s.addrOut := by
  simp [pcRewrite]
@[simp] theorem pcRewrite_spBuf (a : Addr) (r : Resolution) : (pcRewrite a r s).spBuf = s.spBuf := by simp [pcRewrite]
@[simp] theorem pcRewrite_asAddr (a : Addr) (r : Resolution) : (pcRewrite a r s).asAddr = s.asAddr := by
  simp [pcRewrite]
@[simp] theorem pcRewrite_asJunction (a : Addr) (r : Resolution) : (pcRewrite a r s).asJunction = s.asJunction := by
  simp [pcRewrite]
@[simp] theorem pcRewrite_seq (a : Addr) (r : Resolution) : (pcRewrite a r s).seq = s.seq := by simp [pcRewrite]
@[simp] theorem pcRewrite_params (a : Addr) (r : Resolution) : (pcRewrite a r s).params = s.params := by
  simp [pcRewrite]
@[simp] theorem pcRewrite_reads (a : Addr) (r : Resolution) : (pcRewrite a r s).reads = s.reads := by simp [pcRewrite]
@[simp] theorem pcRewrite_addrDraws (a : Addr) (r : Resolution) : (pcRewrite a r s).addrDraws = s.addrDraws := by
  simp [pcRewrite]
@[simp] theorem pcRewrite_quantum (a : Addr) (r : Resolution) : (pcRewrite a r s).quantum = s.quantum := by
  simp [pcRewrite]
@[simp] theorem pcRewrite_busy (a : Addr) (r : Resolution) : (pcRewrite a r s).status.busy = s.status.busy := by
  simp [pcRewrite]
@[simp] theorem pcRewrite_result (a : Addr) (r : Resolution) : (pcRewrite a r s).status.result = s.status.result := by
  simp [pcRewrite]
@[simp] theorem pcRewrite_illegal (a : Addr) (r : Resolution) : (pcRewrite a r s).status.illegal = s.status.illegal := by
  simp [pcRewrite]
@[simp] theorem pcRewrite_overrun (a : Addr) (r : Resolution) : (pcRewrite a r s).status.overrun = s.status.overrun := by
  simp [pcRewrite]
@[simp] theorem pcRewrite_addrCrcErr (a : Addr) (r : Resolution) : (pcRewrite a r s).status.addrCrcErr = s.status.addrCrcErr := by
  simp [pcRewrite]
@[simp] theorem pcRewrite_parasite (a : Addr) (r : Resolution) : (pcRewrite a r s).status.parasite = s.status.parasite := by
  simp [pcRewrite]
@[simp] theorem pcRewrite_asExhausted (a : Addr) (r : Resolution) : (pcRewrite a r s).status.asExhausted = s.status.asExhausted := by
  simp [pcRewrite]

/-! ### pcSetRes -/

@[simp] theorem pcSetRes_lastCmd (a : Addr) (r : Resolution) : (pcSetRes a r s).lastCmd = s.lastCmd := by
  unfold pcSetRes; split <;> (try split) <;> simp
@[simp] theorem pcSetRes_ctrl (a : Addr) (r : Resolution) : (pcSetRes a r s).ctrl = s.ctrl := by
  unfold pcSetRes; split <;> (try split) <;> simp
@[simp] theorem pcSetRes_arg (a : Addr) (r : Resolution) : (pcSetRes a r s).arg = s.arg := by
  unfold pcSetRes; split <;> (try split) <;> simp
@[simp] theorem pcSetRes_handlerId (a : Addr) (r : Resolution) : (pcSetRes a r s).handlerId = s.handlerId := by
  unfold pcSetRes; split <;> (try split) <;> simp
@[simp] theorem pcSetRes_globalRes (a : Addr) (r : Resolution) : (pcSetRes a r s).globalRes = s.globalRes := by
  unfold pcSetRes; split <;> (try split) <;> simp
@[simp] theorem pcSetRes_deviceCount (a : Addr) (r : Resolution) : (pcSetRes a r s).deviceCount = s.deviceCount := by
  unfold pcSetRes; split <;> (try split) <;> simp
@[simp] theorem pcSetRes_resOut (a : Addr) (r : Resolution) : (pcSetRes a r s).resOut = s.resOut := by
  unfold pcSetRes; split <;> (try split) <;> simp
@[simp] theorem pcSetRes_alarmT (a : Addr) (r : Resolution) : (pcSetRes a r s).alarmT = s.alarmT := by
  unfold pcSetRes; split <;> (try split) <;> simp
@[simp] theorem pcSetRes_crcAcc (a : Addr) (r : Resolution) : (pcSetRes a r s).crcAcc = s.crcAcc := by
  unfold pcSetRes; split <;> (try split) <;> simp
@[simp] theorem pcSetRes_phase (a : Addr) (r : Resolution) : (pcSetRes a r s).phase = s.phase := by
  unfold pcSetRes; split <;> (try split) <;> simp
@[simp] theorem pcSetRes_tempFp (a : Addr) (r : Resolution) : (pcSetRes a r s).tempFp = s.tempFp := by
  unfold pcSetRes; split <;> (try split) <;> simp
@[simp] theorem pcSetRes_addrIn (a : Addr) (r : Resolution) : (pcSetRes a r s).addrIn = s.addrIn := by
  unfold pcSetRes; split <;> (try split) <;> simp
@[simp] theorem pcSetRes_addrCmp (a : Addr) (r : Resolution) : (pcSetRes a r s).addrCmp = s.addrCmp := by
  unfold pcSetRes; split <;> (try split) <;> simp
@[simp] theorem pcSetRes_addrOut (a : Addr) (r : Resolution) : (pcSetRes a r s).addrOut = s.addrOut := by
  unfold pcSetRes; split <;> (try split) <;> simp
@[simp] theorem pcSetRes_spBuf (a : Addr) (r : Resolution) : (pcSetRes a r s).spBuf = s.spBuf := by
  unfold pcSetRes; split <;> (try split) <;> simp
@[simp] theorem pcSetRes_asAddr (a : Addr) (r : Resolution) : (pcSetRes a r s).asAddr = s.asAddr := by
  unfold pcSetRes; split <;> (try split) <;> simp
@[simp] theorem pcSetRes_asJunction (a : Addr) (r : Resolution) : (pcSetRes a r s).asJunction = s.asJunction := by
  unfold pcSetRes; split <;> (try split) <;> simp
@[simp] theorem pcSetRes_seq (a : Addr) (r : Resolution) : (pcSetRes a r s).seq = s.seq := by
  unfold pcSetRes; split <;> (try split) <;> simp
@[simp] theorem pcSetRes_params (a : Addr) (r : Resolution) : (pcSetRes a r s).params = s.params := by
  unfold pcSetRes; split <;> (try split) <;> simp
@[simp] theorem pcSetRes_reads (a : Addr) (r : Resolution) : (pcSetRes a r s).reads = s.reads := by
  unfold pcSetRes; split <;> (try split) <;> simp
@[simp] theorem pcSetRes_addrDraws (a : Addr) (r : Resolution) : (pcSetRes a r s).addrDraws = s.addrDraws := by
  unfold pcSetRes; split <;> (try split) <;> simp
@[simp] theorem pcSetRes_quantum (a : Addr) (r : Resolution) : (pcSetRes a r s).quantum = s.quantum := by
  unfold pcSetRes; split <;> (try split) <;> simp
@[simp] theorem pcSetRes_busy (a : Addr) (r : Resolution) : (pcSetRes a r s).status.busy = s.status.busy := by
  unfold pcSetRes; split <;> (try split) <;> simp
@[simp] theorem pcSetRes_result (a : Addr) (r : Resolution) : (pcSetRes a r s).status.result = s.status.result := by
  unfold pcSetRes; split <;> (try split) <;> simp
@[simp] theorem pcSetRes_illegal (a : Addr) (r : Resolution) : (pcSetRes a r s).status.illegal = s.status.illegal := by
  unfold pcSetRes; split <;> (try split) <;> simp
@[simp] theorem pcSetRes_overrun (a : Addr) (r : Resolution) : (pcSetRes a r s).status.overrun = s.status.overrun := by
  unfold pcSetRes; split <;> (try split) <;> simp
@[simp] theorem pcSetRes_addrCrcErr (a : Addr) (r : Resolution) : (pcSetRes a r s).status.addrCrcErr = s.status.addrCrcErr := by
  unfold pcSetRes; split <;> (try split) <;> simp
@[simp] theorem pcSetRes_parasite (a : Addr) (r : Resolution) : (pcSetRes a r s).status.parasite = s.status.parasite := by
  unfold pcSetRes; split <;> (try split) <;> simp
@[simp] theorem pcSetRes_asExhausted (a : Addr) (r : Resolution) : (pcSetRes a r s).status.asExhausted = s.status.asExhausted := by
  unfold pcSetRes; split <;> (try split) <;> simp

/-! ### pcStartOne -/

@[simp] theorem pcStartOne_lastCmd (a : Addr) : (pcStartOne a s).lastCmd = s.lastCmd := by simp [pcStartOne]
@[simp] theorem pcStartOne_ctrl (a : Addr) : (pcStartOne a s).ctrl = s.ctrl := by simp [pcStartOne]
@[simp] theorem pcStartOne_arg (a : Addr) : (pcStartOne a s).arg = s.arg := by simp [pcStartOne]
@[simp] theorem pcStartOne_handlerId (a : Addr) : (pcStartOne a s).handlerId = s.handlerId := by simp [pcStartOne]
@[simp] theorem pcStartOne_globalRes (a : Addr) : (pcStartOne a s).globalRes = s.globalRes := by simp [pcStartOne]
@[simp] theorem pcStartOne_deviceCount (a : Addr) : (pcStartOne a s).deviceCount = s.deviceCount := by
  simp [pcStartOne]
@[simp] theorem pcStartOne_resOut (a : Addr) : (pcStartOne a s).resOut = s.resOut := by simp [pcStartOne]
@[simp] theorem pcStartOne_alarmT (a : Addr) : (pcStartOne a s).alarmT = s.alarmT := by simp [pcStartOne]
@[simp] theorem pcStartOne_crcAcc (a : Addr) : (pcStartOne a s).crcAcc = s.crcAcc := by simp [pcStartOne]
@[simp] theorem pcStartOne_phase (a : Addr) : (pcStartOne a s).phase = s.phase := by simp [pcStartOne]
@[simp] theorem pcStartOne_tempFp (a : Addr) : (pcStartOne a s).tempFp = s.tempFp := by simp [pcStartOne]
@[simp] theorem pcStartOne_addrIn (a : Addr) : (pcStartOne a s).addrIn = s.addrIn := by simp [pcStartOne]
@[simp] theorem pcStartOne_addrCmp (a : Addr) : (pcStartOne a s).addrCmp = s.addrCmp := by simp [pcStartOne]
@[simp] theorem pcStartOne_addrOut (a : Addr) : (pcStartOne a s).addrOut = s.addrOut := by simp [pcStartOne]
@[simp] theorem pcStartOne_spBuf (a : Addr) : (pcStartOne a s).spBuf = s.spBuf := by simp [pcStartOne]
@[simp] theorem pcStartOne_asAddr (a : Addr) : (pcStartOne a s).asAddr = s.asAddr := by simp [pcStartOne]
@[simp] theorem pcStartOne_asJunction (a : Addr) : (pcStartOne a s).asJunction = s.asJunction := by simp [pcStartOne]
@[simp] theorem pcStartOne_seq (a : Addr) : (pcStartOne a s).seq = s.seq := by simp [pcStartOne]
@[simp] theorem pcStartOne_params (a : Addr) : (pcStartOne a s).params = s.params := by simp [pcStartOne]
@[simp] theorem pcStartOne_reads (a : Addr) : (pcStartOne a s).reads = s.reads := by simp [pcStartOne]
@[simp] theorem pcStartOne_addrDraws (a : Addr) : (pcStartOne a s).addrDraws = s.addrDraws := by simp [pcStartOne]
@[simp] theorem pcStartOne_quantum (a : Addr) : (pcStartOne a s).quantum = s.quantum := by simp [pcStartOne]
@[simp] theorem pcStartOne_busy (a : Addr) : (pcStartOne a s).status.busy = s.status.busy := by simp [pcStartOne]
@[simp] theorem pcStartOne_result (a : Addr) : (pcStartOne a s).status.result = s.status.result := by
  simp [pcStartOne]
@[simp] theorem pcStartOne_illegal (a : Addr) : (pcStartOne a s).status.illegal = s.status.illegal := by
  simp [pcStartOne]
@[simp] theorem pcStartOne_overrun (a : Addr) : (pcStartOne a s).status.overrun = s.status.overrun := by
  simp [pcStartOne]
@[simp] theorem pcStartOne_addrCrcErr (a : Addr) : (pcStartOne a s).status.addrCrcErr = s.status.addrCrcErr := by
  simp [pcStartOne]
@[simp] theorem pcStartOne_parasite (a : Addr) : (pcStartOne a s).status.parasite = s.status.parasite := by
  simp [pcStartOne]
@[simp] theorem pcStartOne_asExhausted (a : Addr) : (pcStartOne a s).status.asExhausted = s.status.asExhausted := by
  simp [pcStartOne]

/-! ### pcStartAll -/

@[simp] theorem pcStartAll_lastCmd : (pcStartAll s).lastCmd = s.lastCmd := by simp [pcStartAll]
@[simp] theorem pcStartAll_ctrl : (pcStartAll s).ctrl = s.ctrl := by simp [pcStartAll]
@[simp] theorem pcStartAll_arg : (pcStartAll s).arg = s.arg := by simp [pcStartAll]
@[simp] theorem pcStartAll_handlerId : (pcStartAll s).handlerId = s.handlerId := by simp [pcStartAll]
@[simp] theorem pcStartAll_globalRes : (pcStartAll s).globalRes = s.globalRes := by simp [pcStartAll]
@[simp] theorem pcStartAll_deviceCount : (pcStartAll s).deviceCount = s.deviceCount := by simp [pcStartAll]
@[simp] theorem pcStartAll_resOut : (pcStartAll s).resOut = s.resOut := by simp [pcStartAll]
@[simp] theorem pcStartAll_alarmT : (pcStartAll s).alarmT = s.alarmT := by simp [pcStartAll]
@[simp] theorem pcStartAll_crcAcc : (pcStartAll s).crcAcc = s.crcAcc := by simp [pcStartAll]
@[simp] theorem pcStartAll_phase : (pcStartAll s).phase = s.phase := by simp [pcStartAll]
@[simp] theorem pcStartAll_tempFp : (pcStartAll s).tempFp = s.tempFp := by simp [pcStartAll]
@[simp] theorem pcStartAll_addrIn : (pcStartAll s).addrIn = s.addrIn := by simp [pcStartAll]
@[simp] theorem pcStartAll_addrCmp : (pcStartAll s).addrCmp = s.addrCmp := by simp [pcStartAll]
@[simp] theorem pcStartAll_addrOut : (pcStartAll s).addrOut = s.addrOut := by simp [pcStartAll]
@[simp] theorem pcStartAll_spBuf : (pcStartAll s).spBuf = s.spBuf := by simp [pcStartAll]
@[simp] theorem pcStartAll_asAddr : (pcStartAll s).asAddr = s.asAddr := by simp [pcStartAll]
@[simp] theorem pcStartAll_asJunction : (pcStartAll s).asJunction = s.asJunction := by simp [pcStartAll]
@[simp] theorem pcStartAll_seq : (pcStartAll s).seq = s.seq := by simp [pcStartAll]
@[simp] theorem pcStartAll_params : (pcStartAll s).params = s.params := by simp [pcStartAll]
@[simp] theorem pcStartAll_reads : (pcStartAll s).reads = s.reads := by simp [pcStartAll]
@[simp] theorem pcStartAll_addrDraws : (pcStartAll s).addrDraws = s.addrDraws := by simp [pcStartAll]
@[simp] theorem pcStartAll_quantum : (pcStartAll s).quantum = s.quantum := by simp [pcStartAll]
@[simp] theorem pcStartAll_busy : (pcStartAll s).status.busy = s.status.busy := by simp [pcStartAll]
@[simp] theorem pcStartAll_result : (pcStartAll s).status.result = s.status.result := by simp [pcStartAll]
@[simp] theorem pcStartAll_illegal : (pcStartAll s).status.illegal = s.status.illegal := by simp [pcStartAll]
@[simp] theorem pcStartAll_overrun : (pcStartAll s).status.overrun = s.status.overrun := by simp [pcStartAll]
@[simp] theorem pcStartAll_addrCrcErr : (pcStartAll s).status.addrCrcErr = s.status.addrCrcErr := by simp [pcStartAll]
@[simp] theorem pcStartAll_parasite : (pcStartAll s).status.parasite = s.status.parasite := by simp [pcStartAll]
@[simp] theorem pcStartAll_asExhausted : (pcStartAll s).status.asExhausted = s.status.asExhausted := by
  simp [pcStartAll]

@[simp] theorem presenceAnswer_perform (e : Event) : presenceAnswer (perform e s) = presenceAnswer s := rfl
@[simp] theorem bitAnswer_perform (e : Event) : bitAnswer (perform e s) = bitAnswer s := rfl
@[simp] theorem foundAnswer_perform (e : Event) : foundAnswer (perform e s) = foundAnswer s := rfl
@[simp] theorem tickAnswer_perform (e : Event) : tickAnswer (perform e s) = tickAnswer s := rfl
@[simp] theorem pendingRelease_perform (e : Event) : pendingRelease (perform e s) = [] := rfl
@[simp] theorem pendingRelease_pcReset : pendingRelease (pcReset s) = [] := rfl

end Sys2Proof.Machine
end

