-- ==== Sys2Proof/Laws/Routines.lean ====
section
/-! SUPPORT. Each shared routine, said once: its lines run as its pseudocode says (Machine/Pseudocode.lean). -/

namespace Sys2Proof.Machine

/-! ### Reading a scratchpad (R180) -/

theorem readBytes_eq (sp : Pad) (b0 b1 b2 b3 b4 b5 b6 b7 b8 : Byte) :
    ((((((((sp.setIfInBounds 0 b0).setIfInBounds 1 b1).setIfInBounds 2 b2).setIfInBounds 3 b3).setIfInBounds 4
      b4).setIfInBounds 5 b5).setIfInBounds 6 b6).setIfInBounds 7 b7).setIfInBounds 8 b8
      = #v[b0, b1, b2, b3, b4, b5, b6, b7, b8] := by
  apply Vector.ext
  intro j hj
  interval_cases j <;> simp

/-- The nine answers of a scratchpad read are the next nine of the stream. -/
theorem answers_step {α : Type} (free : Nat → α) (q : Answers α) (n : Nat) :
    nextAnswer free (skipAnswers n q) = peekAnswer free q n := by
  simp [nextAnswer, skipAnswers, peekAnswer, List.headD_eq_head?_getD, List.head?_drop]

theorem skipAnswers_succ {α : Type} (n : Nat) (q : Answers α) :
    restAnswers (skipAnswers n q) = skipAnswers (n + 1) q := by
  simp [restAnswers, skipAnswers, List.tail_drop, Nat.add_assoc]

@[simp] theorem skipAnswers_zero {α : Type} (q : Answers α) : skipAnswers 0 q = q := by
  simp [skipAnswers]

/-- The state of a scratchpad read after `j` bytes. -/
def padPart (a : Addr) (j : Nat) (s : State) : State :=
  { s with
    status.pullupOn := false
    trace := s.trace ++ (pendingRelease s ++ ([.reset (presenceAnswer s), .select a,
      .writeByte s.params.wire.readScratch] ++ (List.range j).map (fun m => .readByte (peekAnswer Config.freeByte s.env.bytes m))))
    env.presence := restAnswers s.env.presence
    env.bytes := skipAnswers j s.env.bytes }

theorem padPart_zero (a : Addr) (s : State) :
    padPart a 0 s = perform (.writeByte s.params.wire.readScratch) (perform (.select a) (pcReset s)) := by
  simp [padPart, perform, pcReset, pendingRelease]

theorem padPart_answer (a : Addr) (j : Nat) (s : State) :
    byteAnswer (padPart a j s) = peekAnswer Config.freeByte s.env.bytes j :=
  answers_step Config.freeByte s.env.bytes j

theorem padPart_succ (a : Addr) (j : Nat) (s : State) :
    { perform (.readByte (byteAnswer (padPart a j s))) (padPart a j s) with
      env.bytes := restAnswers (padPart a j s).env.bytes } = padPart a (j + 1) s := by
  rw [padPart_answer]
  simp [padPart, perform, pendingRelease, skipAnswers_succ, List.range_succ]

theorem padPart_nine (a : Addr) (s : State) : padPart a 9 s = pcReadPad a s := by
  simp [padPart, pcReadPad, readPadEvents, padAnswer, List.range_succ]

variable (i : Instr) (l : Locals) (k : List Line) (t : State)

theorem line_readByte_part (a : Addr) (j : Nat) :
    wholeLine (.readByte j) (beginCommand i l k (padPart a j t))
      = beginCommand i { l with sp := l.sp.setIfInBounds j (peekAnswer Config.freeByte t.env.bytes j) } k
          (padPart a (j + 1) t) := by
  rw [line_readByte, padPart_succ, padPart_answer]

omit k in
/-- The reads of a scratchpad from byte `j`, in the state after the bytes before it. -/
theorem runs_readBytes (a : Addr) : Runs i 9
    [.readByte 0, .readByte 1, .readByte 2, .readByte 3, .readByte 4, .readByte 5, .readByte 6, .readByte 7, .readByte 8]
    l (padPart a 0 t) { l with sp := padAnswer t } (pcReadPad a t) := by
  have step (j : Nat) (l : Locals) : ∀ k, wholeLine (.readByte j) (beginCommand i l k (padPart a j t))
      = beginCommand i { l with sp := l.sp.setIfInBounds j (peekAnswer Config.freeByte t.env.bytes j) } k
          (padPart a (j + 1) t) := fun k => line_readByte_part i l k t a j
  rw [← padPart_nine, show padAnswer t = _ from (readBytes_eq l.sp _ _ _ _ _ _ _ _ _).symm]
  exact .next (step 0 _) (.next (step 1 _) (.next (step 2 _) (.next (step 3 _) (.next (step 4 _) (.next (step 5 _)
    (.next (step 6 _) (.next (step 7 _) (.one (step 8 _)))))))))

omit k in
/-- `ReadSPCore(a)` runs as its pseudocode says (R180). -/
theorem runs_readPad (a : Addr) (p : Params) (hp : p = t.params) :
    Runs i 12 (readPadLines p a) l t { l with present := presenceAnswer t, sp := padAnswer t } (pcReadPad a t) := by
  subst hp
  unfold readPadLines
  refine .next (fun k => line_reset i l k t) (.next (fun k => line_select i _ k _ a) (.next (fun k => line_writeByte i _ k _ _) ?_))
  rw [← padPart_zero]
  exact runs_readBytes i _ t a

omit k in
/-- `ReadPowerCore(a)` runs as its pseudocode says (R185). -/
theorem runs_readPower (a : Addr) (p : Params) (hp : p = t.params) :
    Runs i 4 (readPowerLines p a) l t { l with present := presenceAnswer t, b := bitAnswer t } (pcReadPower a t) := by
  subst hp
  unfold readPowerLines
  exact .next (fun k => line_reset i l k t) (.next (fun k => line_select i _ k _ a) (.next (fun k => line_writeByte i _ k _ _)
    (.one fun k => line_readBit_b i _ k _)))

/-- The presence answer a scratchpad write leaves in the local variables: the last one it got. -/
def writePadPresent (a : Addr) (s : State) : Bool :=
  if wantsCopy s a then presenceAnswer (pcReset s) else presenceAnswer s

omit k in
/-- The transfer of `WriteSPCore(a, sp)` runs as its pseudocode says (R181). -/
theorem runs_writeBytes (a : Addr) (sp : Pad) :
    Runs i 6 (writeBytesLines t.params a sp) l t { l with present := presenceAnswer t } (pcWriteBytes a sp t) := by
  unfold writeBytesLines
  exact .next (fun k => line_reset i l k t) (.next (fun k => line_select i _ k _ a) (.next (fun k => line_writeByte i _ k _ _)
    (.next (fun k => line_writeByte i _ k _ _) (.next (fun k => line_writeByte i _ k _ _)
      (.one fun k => line_writeByte i _ k _ _)))))

omit k in
/-- The copy of `WriteSPCore(a, sp)` runs as its pseudocode says (R181). -/
theorem runs_copy (a : Addr) :
    Runs i 6 (copyLines t.params a t.status.parasite) l t { l with present := presenceAnswer t } (pcCopy a t) := by
  unfold copyLines copyPowerLines pcCopy
  cases hp : t.status.parasite
  · exact Runs.mono (m := 3) (by omega) (.next (fun k => line_reset i l k t) (.next (fun k => line_select i _ k _ a)
      (.one fun k => line_writeByte i _ k _ _)))
  · exact .next (fun k => line_reset i l k t) (.next (fun k => line_select i _ k _ a) (.next (fun k => line_writeByte i _ k _ _)
      (.next (fun k => line_setPullup i _ k _ true) (.next (fun k => line_delay i _ k _ _)
        (.one fun k => line_setPullup i _ k _ false)))))

omit k in
/-- `WriteSPCore(a, sp)` runs as its pseudocode says (R181). -/
theorem runs_writePad (a : Addr) (sp : Pad) :
    Runs i 12 (writePadLines t a sp) l t { l with present := writePadPresent a t } (pcWritePad a sp t) := by
  have first := runs_writeBytes i l t a sp
  unfold writePadLines writePadPresent pcWritePad
  cases wantsCopy t a
  · simpa using Runs.mono (by omega) first
  · have second := runs_copy i { l with present := presenceAnswer t } (pcWriteBytes a sp t) a
    simp only [pcWriteBytes_params, pcWriteBytes_parasite] at second
    exact first.append second (by simp [copyLines])

end Sys2Proof.Machine
end

