-- ==== Sys2Proof/Laws/Loops.lean ====
section
/-! SUPPORT. The routines with choices and loops, said once: resolution, the searches, the conversion wait, the alarm
search (Machine/Pseudocode.lean). "Runs" says how many lines at most, and what the command's local variables keep. -/

namespace Sys2Proof.Machine

/-! ### Straight lines -/

variable {i : Instr} {l : Locals} {t : State}

theorem runs_writeSp (a : Addr) :
    Runs i 13 [.act (.writeSp a)] l t { l with present := writePadPresent a t } (pcWritePad a l.sp t) :=
  Runs.line (ls := writePadLines t a l.sp) (fun k => rfl) (runs_writePad i l t a l.sp) (by simp [writePadLines, writeBytesLines])

/-! ### Resolution (R183, R184) -/

/-- The local variables `GetResCore` leaves. -/
def getResLocals (a : Addr) (l : Locals) (t : State) : Locals :=
  match fixedRes t.params a with
  | some r => { l with res := some r }
  | none => { l with present := presenceAnswer t, sp := padAnswer t, res := resOfPad t.params (padAnswer t) }

theorem getResLocals_res (a : Addr) (l : Locals) (t : State) : (getResLocals a l t).res = getResResult a t := by
  unfold getResLocals getResResult
  cases fixedRes t.params a <;> rfl

/-- `GetResCore(a)` runs as its pseudocode says (R183). -/
theorem runs_getRes (a : Addr) : Runs i 14 [.act (.getRes a)] l t (getResLocals a l t) (pcGetRes a t) := by
  unfold getResLocals pcGetRes
  cases hf : fixedRes t.params a with
  | some r => exact Runs.mono (by omega) (Runs.one fun k => by simp [runAct, actGetRes, beginCommand, hf])
  | none =>
    refine Runs.pushes (ls := readPadLines t.params a ++ [.act .getResPad]) (fun k => by
      simp [runAct, actGetRes, beginCommand, hf]) ?_ (by simp)
    exact (runs_readPad _ _ _ a t.params rfl).append (m' := 1) (Runs.one fun k => rfl) (by simp)

/-- What `SetResCore` leaves of the local variables that commands still need. -/
structure KeepsLoop (l l' : Locals) : Prop where
  allOk : l'.allOk = l.allOk
  n : l'.n = l.n
  par : l'.par = l.par
  maxres : l'.maxres = l.maxres
  found : l'.found = l.found

theorem getResLocals_keeps (a : Addr) (l : Locals) (t : State) : KeepsLoop l (getResLocals a l t) := by
  unfold getResLocals; split <;> exact ⟨rfl, rfl, rfl, rfl, rfl⟩

/-- `SetResCore(a, req)` runs as its pseudocode says (R184). -/
theorem runs_setRes (a : Addr) (r : Resolution) : ∃ l', l'.ok = setResResult a r t ∧ KeepsLoop l l' ∧
    Runs i 42 [.act (.setRes a r)] l t l' (pcSetRes a r t) := by
  unfold setResResult pcSetRes
  cases hf : fixedRes t.params a with
  | some q =>
    refine ⟨{ l with ok := true }, rfl, ⟨rfl, rfl, rfl, rfl, rfl⟩, Runs.mono (by omega) (Runs.one fun k => ?_)⟩
    simp [runAct, actSetRes, beginCommand, hf]
  | none =>
    cases hc : padCrcOk t.params (padAnswer t) with
    | false =>
      refine ⟨{ l with present := presenceAnswer t, sp := padAnswer t, ok := false }, by simp,
        ⟨rfl, rfl, rfl, rfl, rfl⟩, Runs.mono (m := 12 + 1 + 1) (by omega) ?_⟩
      refine Runs.pushes (ls := readPadLines t.params a ++ [.act (.setResPad a r)]) (fun k => by
        simp [runAct, actSetRes, beginCommand, hf]) ?_ (by simp)
      refine (runs_readPad _ _ _ a t.params rfl).append (Runs.one fun k => ?_) (by simp)
      simp [runAct, actSetResPad, beginCommand, hc]
    | true =>
      let l1 : Locals := { l with
        present := presenceAnswer t, sp := (padAnswer t).set 4 (perRes t.params.resMask r) }
      let u := pcRewrite a r t
      let l2 := getResLocals a { l1 with present := writePadPresent a (pcReadPad a t) } u
      refine ⟨{ l2 with ok := l2.res == some r }, by simp [l2, getResLocals_res, u], ?_, Runs.mono
        (m := 12 + (13 + (14 + 1) + 1) + 1) (by omega) ?_⟩
      · have := getResLocals_keeps a { l1 with present := writePadPresent a (pcReadPad a t) } u
        exact ⟨this.allOk, this.n, this.par, this.maxres, this.found⟩
      refine Runs.pushes (ls := readPadLines t.params a ++ [.act (.setResPad a r)]) (fun k => by
        simp [runAct, actSetRes, beginCommand, hf]) ?_ (by simp)
      refine (runs_readPad _ _ _ a t.params rfl).append ?_ (by simp)
      refine Runs.line (ls := [.act (.writeSp a), .act (.getRes a), .act (.setResVerify r)]) (l' := l1) (t' := pcReadPad a t)
        (fun k => by simp [runAct, actSetResPad, beginCommand, hc, push, l1]) ?_ (by simp)
      refine (runs_writeSp a).cons (m' := 14 + 1) (ls' := [.act (.getRes a), .act (.setResVerify r)]) ?_ (by simp)
      exact (runs_getRes a).cons (ls' := [.act (.setResVerify r)]) (m' := 1) (Runs.one fun k => rfl) (by simp)

/-! ### Searches (R145, R146, R151, R194) -/

theorem runs_searchNext :
    Runs i 1 [.searchNext] l t { l with found := foundAnswer t } (pcSearchNext t) :=
  Runs.one fun k => line_searchNext i l k t

/-- The walk of `GetAddrCore` runs as its pseudocode says (R145). -/
theorem runs_lookup (j : Nat) : ∀ (l : Locals) (t : State), Runs i (2 * j + 2)
    [.searchNext, .act (.getAddrFound j)] l t { l with found := (pcLookup j t).1 } (pcLookup j t).2 := by
  induction j with
  | zero =>
    intro l t
    refine Runs.mono (m := 1 + 1) (by omega)
      (runs_searchNext.cons (ls' := [.act (.getAddrFound 0)]) (Runs.one fun k => ?_) (by simp))
    unfold pcLookup
    cases hf : foundAnswer t with
    | none => simp [runAct, actGetAddrFound, beginCommand]
    | some a => by_cases hv : isValidAddr t.params a <;> simp [runAct, actGetAddrFound, beginCommand, hv]
  | succ j ih =>
    intro l t
    unfold pcLookup
    cases hf : foundAnswer t with
    | none =>
      refine Runs.mono (m := 1 + 1) (by omega)
        (runs_searchNext.cons (ls' := [.act (.getAddrFound (j + 1))]) (Runs.one fun k => ?_) (by simp))
      simp [runAct, actGetAddrFound, beginCommand, hf]
    | some a =>
      by_cases hv : isValidAddr t.params a
      · refine Runs.mono (m := 1 + (2 * j + 2 + 1)) (by omega)
          (runs_searchNext.cons (ls' := [.act (.getAddrFound (j + 1))]) ?_ (by simp))
        refine Runs.pushes (ls := [.searchNext, .act (.getAddrFound j)]) (fun k => ?_) ?_ (by simp)
        · simp [runAct, actGetAddrFound, beginCommand, hf, hv]
        · simpa [hv, hf] using ih { l with found := some a } (pcSearchNext t)
      · refine Runs.mono (m := 1 + 1) (by omega)
          (runs_searchNext.cons (ls' := [.act (.getAddrFound (j + 1))]) (Runs.one fun k => ?_) (by simp))
        simp [runAct, actGetAddrFound, beginCommand, hf, hv]

/-- `GetAddrCore(idx)` runs as its pseudocode says (R145). -/
theorem runs_getAddr (idx : Nat) :
    Runs i (2 * idx + 3) (getAddrLines idx) l t { l with found := (pcGetAddr idx t).1 } (pcGetAddr idx t).2 := by
  refine Runs.mono (m := 1 + (2 * idx + 2)) (by omega) ?_
  exact Runs.cons (ls' := [.searchNext, .act (.getAddrFound idx)]) (Runs.one fun k => line_searchReset i l k t)
    (runs_lookup idx l (perform .searchReset t)) (by simp)

/-- The loop of GET_COUNT runs as its pseudocode says (R146, R157). -/
theorem runs_count (fuel : Nat) : ∀ (l : Locals) (t : State) (c : Nat) (u : State),
    pcCount fuel l.n t = some (c, u) → ∃ l', Runs i (2 * fuel) [.searchNext, .act .countFound] l t l'
      (setResult true { u with deviceCount := BitVec.ofNat 8 c }) := by
  induction fuel with
  | zero => intro l t c u h; simp [pcCount] at h
  | succ m ih =>
    intro l t c u h
    unfold pcCount at h
    cases hf : foundAnswer t with
    | none =>
      simp only [hf, Option.some.injEq, Prod.mk.injEq] at h
      obtain ⟨rfl, rfl⟩ := h
      refine ⟨{ l with found := none }, Runs.mono (m := 1 + 1) (by omega)
        (runs_searchNext.cons (ls' := [.act .countFound]) (Runs.one fun k => ?_) (by simp))⟩
      simp [runAct, actCountFound, beginCommand, setResult, hf]
    | some a =>
      simp only [hf] at h
      let l1 : Locals := { l with
        found := some a, n := if isValidAddr t.params a then countUp l.n else l.n }
      obtain ⟨l', r⟩ := ih l1 (pcSearchNext t) c u h
      refine ⟨l', Runs.mono (m := 1 + (2 * m + 1)) (by omega)
        (runs_searchNext.cons (ls' := [.act .countFound]) (Runs.line (l' := l1) (t' := pcSearchNext t)
          (fun k => ?_) r (by simp)) (by simp))⟩
      by_cases hv : isValidAddr t.params a <;>
        simp [runAct, actCountFound, beginCommand, push, hf, hv, l1]

/-- The loop of INIT runs as its pseudocode says (R151). -/
theorem runs_survey (fuel : Nat) : ∀ (l : Locals) (t : State) (v : Survey) (u : State),
    pcSurvey fuel ⟨l.n, l.par, l.maxres⟩ t = some (v, u) → ∃ l', Runs i (23 * fuel) [.searchNext, .act .initFound] l t l'
      (setResult true (setParasite v.par
        { u with deviceCount := BitVec.ofNat 8 v.count, globalRes := v.maxres.getD u.globalRes })) := by
  induction fuel with
  | zero => intro l t v u h; simp [pcSurvey] at h
  | succ m ih =>
    intro l t v u h
    unfold pcSurvey at h
    cases hf : foundAnswer t with
    | none =>
      simp only [hf, Option.some.injEq, Prod.mk.injEq] at h
      obtain ⟨rfl, rfl⟩ := h
      refine ⟨{ l with found := none }, Runs.mono (m := 1 + 1) (by omega)
        (runs_searchNext.cons (ls' := [.act .initFound]) (Runs.one fun k => ?_) (by simp))⟩
      simp [runAct, actInitFound, initWrites, beginCommand, setResult, setParasite, hf]
    | some a =>
      by_cases hv : isValidAddr t.params a
      · simp only [hf, hv, if_true] at h
        let t1 := pcSearchNext t
        let t2 := pcReadPower a t1
        let l1 : Locals := { l with
          found := some a, present := presenceAnswer t1, b := bitAnswer t1, par := l.par || !bitAnswer t1 }
        let l2 := getResLocals a l1 t2
        have kp := getResLocals_keeps a l1 t2
        let l3 : Locals := { l2 with maxres := maxResOpt l2.maxres l2.res, n := countUp l2.n }
        obtain ⟨l', r⟩ := ih l3 (pcGetRes a t2) v u (by
          rw [← h]
          congr 1
          change Survey.mk (countUp (getResLocals a l1 t2).n) (getResLocals a l1 t2).par
            (maxResOpt (getResLocals a l1 t2).maxres (getResLocals a l1 t2).res) = _
          rw [kp.n, kp.par, kp.maxres, getResLocals_res]
          rfl)
        refine ⟨l', Runs.mono (m := 1 + (4 + (1 + (14 + (1 + 23 * m))) + 1)) (by omega)
          (runs_searchNext.cons (ls' := [.act .initFound]) ?_ (by simp))⟩
        refine Runs.pushes (ls := initDeviceLines t.params a) (fun k => by
          simp [runAct, actInitFound, beginCommand, hf, hv]) ?_ (by simp [initDeviceLines])
        refine (runs_readPower _ _ (pcSearchNext t) a t.params rfl).append
          (ls' := [.act .initPower, .act (.getRes a), .act .initRes, .searchNext, .act .initFound])
          (m' := 1 + (14 + (1 + 23 * m))) ?_ (by simp)
        refine Runs.cons (ls' := [.act (.getRes a), .act .initRes, .searchNext, .act .initFound])
          (l' := l1) (t' := t2) (Runs.one fun k => ?_) ?_ (by simp)
        · simp [runAct, actInitPower, beginCommand, l1, t1, t2, hf]
        refine (runs_getRes a).cons (ls' := [.act .initRes, .searchNext, .act .initFound]) ?_ (by simp)
        exact Runs.cons (ls' := [.searchNext, .act .initFound]) (l' := l3) (Runs.one fun k => rfl) r (by simp)
      · simp only [hf, hv] at h
        obtain ⟨l', r⟩ := ih { l with found := some a } (pcSearchNext t) v u h
        refine ⟨l', Runs.mono (m := 1 + (23 * m + 1)) (by omega)
          (runs_searchNext.cons (ls' := [.act .initFound]) ?_ (by simp))⟩
        refine Runs.pushes (ls := [.searchNext, .act .initFound]) (fun k => by
          simp [runAct, actInitFound, beginCommand, hf, hv]) ?_ (by simp)
        simpa [hf] using r

/-- The loop of SET_GRES runs as its pseudocode says (R194). -/
theorem runs_setAll (q : Resolution) (fuel : Nat) : ∀ (l : Locals) (t : State) (ok : Bool) (u : State),
    pcSetAll q fuel l.allOk t = some (ok, u) → ∃ l', Runs i (46 * fuel) [.searchNext, .act (.gresFound q)] l t l'
      (setResult ok u) := by
  induction fuel with
  | zero => intro l t v u h; simp [pcSetAll] at h
  | succ m ih =>
    intro l t v u h
    unfold pcSetAll at h
    cases hf : foundAnswer t with
    | none =>
      simp only [hf, Option.some.injEq, Prod.mk.injEq] at h
      obtain ⟨rfl, rfl⟩ := h
      refine ⟨{ l with found := none }, Runs.mono (m := 1 + 1) (by omega)
        (runs_searchNext.cons (ls' := [.act (.gresFound q)]) (Runs.one fun k => ?_) (by simp))⟩
      simp [runAct, actGresFound, beginCommand, setResult, hf]
    | some a =>
      by_cases hv : isValidAddr t.params a
      · simp only [hf, hv, if_true] at h
        obtain ⟨l2, h2, kp, r2⟩ := runs_setRes (i := i) (l := { l with found := some a }) (t := pcSearchNext t) a q
        let l3 : Locals := { l2 with allOk := l2.allOk && l2.ok }
        obtain ⟨l', r⟩ := ih l3 (pcSetRes a q (pcSearchNext t)) v u (by
          rw [← h]; simp only [l3, kp.allOk, h2])
        refine ⟨l', Runs.mono (m := 1 + (42 + (1 + 46 * m) + 1)) (by omega)
          (runs_searchNext.cons (ls' := [.act (.gresFound q)]) ?_ (by simp))⟩
        refine Runs.pushes (ls := [.act (.setRes a q), .act .gresStored, .searchNext, .act (.gresFound q)])
          (fun k => by simp [runAct, actGresFound, beginCommand, hf, hv]) ?_ (by simp)
        rw [hf]
        refine r2.cons (ls' := [.act .gresStored, .searchNext, .act (.gresFound q)]) ?_ (by simp)
        exact Runs.cons (ls' := [.searchNext, .act (.gresFound q)]) (l' := l3) (Runs.one fun k => rfl) r (by simp)
      · simp only [hf, hv] at h
        obtain ⟨l', r⟩ := ih { l with found := some a } (pcSearchNext t) v u h
        refine ⟨l', Runs.mono (m := 1 + (46 * m + 1)) (by omega)
          (runs_searchNext.cons (ls' := [.act (.gresFound q)]) ?_ (by simp))⟩
        refine Runs.pushes (ls := [.searchNext, .act (.gresFound q)]) (fun k => by
          simp [runAct, actGresFound, beginCommand, hf, hv]) ?_ (by simp)
        simpa [hf] using r

/-! ### The conversion wait (R264 to R267) -/

/-- The polling loop runs as its pseudocode says (R264, R265). -/
theorem runs_poll (t0 d : Nat) (fuel : Nat) : ∀ (l : Locals) (t u : State), pcPoll t0 d fuel t = some u →
    ∃ l', Runs i (2 * fuel) [.readBit .b, .act (.pollCheck t0 d)] l t l' u := by
  induction fuel with
  | zero => intro l t u h; simp [pcPoll] at h
  | succ m ih =>
    intro l t u h
    unfold pcPoll at h
    have first : Runs i 1 [.readBit .b] l t { l with b := bitAnswer t } (pcReadBit t) :=
      Runs.one fun k => line_readBit_b i l k t
    by_cases hb : bitAnswer t
    · simp only [hb, if_true, Option.some.injEq] at h
      subst h
      exact ⟨{ l with b := bitAnswer t }, Runs.mono (m := 1 + 1) (by omega)
        (first.cons (ls' := [.act (.pollCheck t0 d)]) (Runs.one fun k => by
          simp [runAct, actPollCheck, beginCommand, hb]) (by simp))⟩
    · simp only [hb] at h
      by_cases hc : d < (readClock (pcReadBit t)).clock - t0
      · simp only [hc, Bool.false_eq_true, if_false, if_true, Option.some.injEq] at h
        subst h
        refine ⟨{ l with b := bitAnswer t }, Runs.mono (m := 1 + 1) (by omega)
          (first.cons (ls' := [.act (.pollCheck t0 d)]) (Runs.one fun k => ?_) (by simp))⟩
        simp [runAct, actPollCheck, hb, hc, -readClock_clock]
      · simp only [hc] at h
        obtain ⟨l', r⟩ := ih { l with b := bitAnswer t } (readClock (pcReadBit t)) u (by simpa using h)
        refine ⟨l', Runs.mono (m := 1 + (2 * m + 1)) (by omega)
          (first.cons (ls' := [.act (.pollCheck t0 d)]) (Runs.line (l' := { l with b := bitAnswer t })
            (t' := readClock (pcReadBit t)) (fun k => ?_) r (by simp)) (by simp))⟩
        simp [runAct, actPollCheck, hb, hc, -readClock_clock]

theorem runs_waitEnd : Runs i 2 [.act .waitEnd] l t l (pcWaitEnd t) := by
  unfold pcWaitEnd
  by_cases hp : t.status.pullupOn
  · simp only [hp, if_true]
    exact Runs.pushes (m := 1) (ls := [.setPullup false])
      (fun k => by simp [runAct, actWaitEnd, beginCommand, hp]) (Runs.one fun k => rfl) (by simp)
  · simp only [hp]
    exact Runs.mono (by omega) (Runs.one fun k => by simp [runAct, actWaitEnd, beginCommand, hp])

/-- `WaitConv(T)` runs as its pseudocode says (R264). -/
theorem runs_waitConv (fuel d : Nat) (u : State) (h : pcWaitConv fuel d t = some u) :
    ∃ l', Runs i (2 * fuel + 4) [.act (.waitConv d)] l t l' u := by
  unfold pcWaitConv at h
  by_cases hp : t.ctrl.pollEn && !t.status.parasite
  · simp only [hp, if_true, Option.map_eq_some_iff] at h
    obtain ⟨v, hv, rfl⟩ := h
    obtain ⟨l', r⟩ := runs_poll (i := i) _ d fuel l (readClock t) v hv
    refine ⟨l', Runs.mono (m := 2 * fuel + 2 + 1) (by omega) (Runs.line (l' := l) (t' := readClock t)
      (ls := [.readBit .b, .act (.pollCheck (readClock t).clock d)] ++ [.act .waitEnd]) (fun k => ?_)
      (r.append runs_waitEnd (by simp)) (by simp))⟩
    simp only [line_act, runAct, actWaitConv, begin_ctrl, begin_parasite, hp, if_true, begin_readClock, begin_clock,
      push_begin, List.cons_append, List.nil_append]
  · simp only [hp] at h
    simp only [Bool.false_eq_true, if_false, Option.some.injEq] at h
    subst h
    refine ⟨l, Runs.mono (m := 1 + 2 + 1) (by omega) (Runs.pushes (ls := [.delay d, .act .waitEnd]) (fun k => ?_)
      (Runs.cons (ls' := [.act .waitEnd]) (t' := delayFor d t) (l' := l) (Runs.one fun k => rfl) runs_waitEnd (by simp))
      (by simp))⟩
    simp only [line_act, runAct, actWaitConv, begin_ctrl, begin_parasite, hp, Bool.false_eq_true, if_false]

/-- A state with another `PHASE`. -/
def withPhase (p : Phase) (s : State) : State := { s with phase := p }

theorem pcPoll_phase (p : Phase) (t0 d fuel : Nat) : ∀ t : State,
    pcPoll t0 d fuel (withPhase p t) = (pcPoll t0 d fuel t).map (withPhase p) := by
  induction fuel with
  | zero => intro t; rfl
  | succ m ih =>
    intro t
    have e1 : pcReadBit (withPhase p t) = withPhase p (pcReadBit t) := rfl
    have e2 (x : State) : readClock (withPhase p x) = withPhase p (readClock x) := rfl
    have e3 : bitAnswer (withPhase p t) = bitAnswer t := rfl
    have e4 (x : State) : (withPhase p x).clock = x.clock := rfl
    unfold pcPoll
    simp only [e1, e2, e3, e4]
    split
    · rfl
    · split
      · rfl
      · exact ih _

theorem pcWaitEnd_phase (p : Phase) (t : State) : pcWaitEnd (withPhase p t) = withPhase p (pcWaitEnd t) := by
  have f : (withPhase p t).status = t.status := rfl
  unfold pcWaitEnd
  rw [f]
  split <;> rfl

theorem pcWaitConv_phase (p : Phase) (fuel d : Nat) (t : State) :
    pcWaitConv fuel d (withPhase p t) = (pcWaitConv fuel d t).map (withPhase p) := by
  have e : readClock (withPhase p t) = withPhase p (readClock t) := rfl
  have e' : delayFor d (withPhase p t) = withPhase p (delayFor d t) := rfl
  have e'' : (withPhase p (readClock t)).clock = (readClock t).clock := rfl
  have f : (withPhase p t).ctrl = t.ctrl := rfl
  have f' : (withPhase p t).status = t.status := rfl
  unfold pcWaitConv
  rw [e, e', e'', f, f', pcPoll_phase, pcWaitEnd_phase]
  split
  · cases pcPoll _ d fuel (readClock t) with
    | none => rfl
    | some v => simp [pcWaitEnd_phase]
  · rfl

/-- `ConvTail(T)` runs as its pseudocode says, and leaves `PHASE` Idle (R261, R267). -/
theorem runs_convTail (fuel d : Nat) (u : State) (h : pcConvTail fuel d t = some u) :
    ∃ l', Runs i (2 * fuel + 9) [.act (.convTail d)] l t l' (withPhase .idle u) := by
  unfold pcConvTail at h
  let t1 := if t.status.parasite then busSetPullup true t else t
  have hw : t1.ctrl = t.ctrl := by simp only [t1]; split <;> rfl
  have tail : ∃ l', Runs i (2 * fuel + 7) [.act (.convWaiting d)] l t1 l' (withPhase .idle u) := by
    by_cases he : t.ctrl.waitEn
    · simp only [he, if_true] at h
      have h1 : pcWaitConv fuel d (withPhase .waiting t1) = some (withPhase .waiting u) := by
        rw [pcWaitConv_phase, h]; rfl
      obtain ⟨l', r⟩ := runs_waitConv (i := i) (l := l) fuel d _ h1
      refine ⟨l', Runs.mono (m := 2 * fuel + 4 + (1 + 1) + 1) (by omega) (Runs.line (l' := l)
        (t' := withPhase .waiting t1)
        (ls := [.act (.waitConv d), .act (.setPhase .complete), .act (.setPhase .idle)]) (fun k => ?_) ?_ (by simp))⟩
      · simp [runAct, actConvWaiting, beginCommand, hw, he, push, withPhase]
      · refine r.cons (ls' := [.act (.setPhase .complete), .act (.setPhase .idle)]) ?_ (by simp)
        exact Runs.cons (ls' := [.act (.setPhase .idle)]) (l' := l') (t' := withPhase .complete u)
          (Runs.one fun k => rfl) (Runs.one fun k => rfl) (by simp)
    · simp only [he] at h
      simp only [Bool.false_eq_true, if_false, Option.some.injEq] at h
      subst h
      refine ⟨l, Runs.mono (m := 1 + 1) (by omega) (Runs.line (l' := l) (t' := withPhase .waiting t1)
        (ls := [.act (.setPhase .idle)]) (fun k => ?_) (Runs.one fun k => rfl) (by simp))⟩
      simp [runAct, actConvWaiting, beginCommand, hw, he, push, withPhase]
  obtain ⟨l', r⟩ := tail
  refine ⟨l', Runs.mono (m := 1 + (2 * fuel + 7) + 1) (by omega) ?_⟩
  by_cases hp : t.status.parasite
  · have e : t1 = busSetPullup true t := by simp [t1, hp]
    rw [e] at r
    refine Runs.pushes (ls := [.setPullup true, .act (.convWaiting d)]) (fun k => ?_)
      (Runs.cons (ls' := [.act (.convWaiting d)]) (Runs.one fun k => rfl) r (by simp)) (by simp)
    simp [runAct, actConvTail, beginCommand, hp]
  · have e : t1 = t := by simp [t1, hp]
    rw [e] at r
    refine Runs.pushes (ls := [.act (.convWaiting d)]) (fun k => ?_) (Runs.mono (by omega) r) (by simp)
    simp [runAct, actConvTail, beginCommand, hp]

/-! ### The alarm search (R291, R304) -/

/-- One bit position runs as its pseudocode says (R291), when what follows its write slot does. -/
theorem runs_alarmPosition (n : Nat) (l : Locals) (t : State)
    (next : ∀ (l1 : Locals) (t1 : State), l1.i = l.i → ∃ l', l'.found = (pcAlarmBits n (l.i + 1) l1.last l1.done t1).1 ∧
      l'.err = l1.err ∧
      Runs i (5 * n + 1) [.act .alarmNext] l1 t1 l' (pcAlarmBits n (l.i + 1) l1.last l1.done t1).2) :
    ∃ l', l'.found = (pcAlarmBits (n + 1) l.i l.last l.done t).1 ∧ l'.err = l.err ∧
      Runs i (5 * (n + 1)) alarmSlots l t l' (pcAlarmBits (n + 1) l.i l.last l.done t).2 := by
  let l2 : Locals := { l with b := bitAnswer t, nb := bitAnswer (pcReadBit t) }
  let t2 : State := pcReadBit (pcReadBit t)
  have slots {l' : Locals} {u : State} (r : Runs i (5 * n + 3) [.act .alarmBit] l2 t2 l' u) :
      Runs i (5 * (n + 1)) alarmSlots l t l' u := by
    refine Runs.mono (m := 1 + (1 + (5 * n + 3))) (by omega) ?_
    refine Runs.cons (ls' := [.readBit .nb, .act .alarmBit]) (Runs.one fun k => line_readBit_b i l k t) ?_ (by simp)
    exact Runs.cons (ls' := [.act .alarmBit]) (Runs.one fun k => line_readBit_nb i _ k _) r (by simp)
  unfold pcAlarmBits
  by_cases hb : bitAnswer t && bitAnswer (pcReadBit t)
  · simp only [hb, if_true]
    refine ⟨{ l2 with found := none }, rfl, rfl, slots (Runs.mono (by omega) (Runs.one fun k => ?_))⟩
    simp only [line_act, runAct, actAlarmBit, begin_loc, l2, hb, if_true]
    rfl
  · simp only [hb, Bool.false_eq_true, if_false]
    let w := chooseBranch l.i (bitAnswer t) (bitAnswer (pcReadBit t)) t.asJunction (addrBit t.asAddr l.i) l.last l.done
    let l3 : Locals := { l2 with last := w.last, done := w.done }
    let t3 : State := { t2 with asAddr := setAddrBit t.asAddr l.i w.bit, asJunction := w.junction }
    obtain ⟨l', hf, he, r⟩ := next l3 (perform (.writeBit w.bit) t3) rfl
    refine ⟨l', hf, he, slots (Runs.mono (m := 1 + (5 * n + 1) + 1) (by omega)
      (Runs.line (l' := l3) (t' := t3) (ls := [.writeBit w.bit, .act .alarmNext]) (fun k => ?_)
        (Runs.cons (ls' := [.act .alarmNext]) (Runs.one fun k => line_writeBit i l3 k t3 w.bit) r (by simp)) (by simp)))⟩
    simp only [line_act, runAct, actAlarmBit, begin_loc, l2, hb, Bool.false_eq_true, if_false]
    rfl

/-- The 64 bit positions run as their pseudocode says (R291). -/
theorem runs_alarmBits (n : Nat) : ∀ (l : Locals) (t : State), l.i + (n + 1) = 64 →
    ∃ l', l'.found = (pcAlarmBits (n + 1) l.i l.last l.done t).1 ∧ l'.err = l.err ∧
      Runs i (5 * (n + 1)) alarmSlots l t l' (pcAlarmBits (n + 1) l.i l.last l.done t).2 := by
  induction n with
  | zero =>
    intro l t hn
    refine runs_alarmPosition 0 l t fun l1 t1 hi => ⟨{ l1 with found := some t1.asAddr }, rfl, rfl, Runs.one fun k => ?_⟩
    have h63 : ¬ l1.i < 63 := by omega
    simp only [line_act, runAct, actAlarmNext, begin_loc, h63, if_false]
    rfl
  | succ n ih =>
    intro l t hn
    refine runs_alarmPosition (n + 1) l t fun l1 t1 hi => ?_
    obtain ⟨l', hf, he, r⟩ := ih { l1 with i := l1.i + 1 } t1 (by simp only; omega)
    rw [hi] at hf r
    have h63 : l.i < 63 := by omega
    refine ⟨l', hf, he, Runs.line (l' := { l1 with i := l.i + 1 }) (t' := t1) (ls := alarmSlots) (fun k => ?_) r
      (by simp [alarmSlots])⟩
    simp only [line_act, runAct, actAlarmNext, begin_loc, h63, if_true, hi]
    rfl

/-- `AlarmSearchCore()` runs as its pseudocode says (R291). -/
theorem runs_alarmSearch (l : Locals) (t : State) : ∃ l', l'.found = (pcAlarmSearch t).1 ∧ l'.err = l.err ∧
    Runs i 324 [.act .alarmStart] l t l' (pcAlarmSearch t).2 := by
  unfold pcAlarmSearch
  by_cases hx : t.status.asExhausted
  · simp only [hx, if_true]
    refine ⟨{ l with found := none }, rfl, rfl, Runs.mono (by omega) (Runs.one fun k => ?_)⟩
    simp only [line_act, runAct, actAlarmStart, begin_asExhausted, hx, if_true]
    rfl
  · simp only [hx, Bool.false_eq_true, if_false]
    have start {l' : Locals} {u : State} (r : Runs i 322 [.act .alarmPresence] { l with present := presenceAnswer t }
        (pcReset t) l' u) : Runs i 324 [.act .alarmStart] l t l' u := by
      refine Runs.mono (m := 1 + 322 + 1) (by omega) (Runs.pushes (ls := [.reset, .act .alarmPresence]) (fun k => ?_)
        (Runs.cons (ls' := [.act .alarmPresence]) (Runs.one fun k => line_reset i l k t) r (by simp)) (by simp))
      simp only [line_act, runAct, actAlarmStart, begin_asExhausted, hx, Bool.false_eq_true, if_false]
    by_cases hp : presenceAnswer t
    · simp only [hp, if_true]
      let l1 : Locals := { l with present := true, last := -1, done := true, i := 0 }
      let t1 := perform (.writeByte t.params.wire.alarmSearch) (pcReset t)
      obtain ⟨l', hf, he, r⟩ := runs_alarmBits (i := i) 63 l1 t1 rfl
      refine ⟨l', hf, he, start (Runs.line (m := 1 + 320) (l' := l1) (t' := pcReset t)
        (ls := .writeByte t.params.wire.alarmSearch :: alarmSlots) (fun k => ?_) ?_ (by simp))⟩
      · simp only [line_act, runAct, actAlarmPresence, begin_loc, hp, if_true]
        rfl
      · exact Runs.cons (ls' := alarmSlots) (Runs.one fun k => line_writeByte i l1 k (pcReset t) _) r
          (by simp [alarmSlots])
    · simp only [hp, Bool.false_eq_true, if_false]
      refine ⟨{ l with present := presenceAnswer t, found := none }, rfl, rfl,
        start (Runs.mono (by omega) (Runs.one fun k => ?_))⟩
      simp only [line_act, runAct, actAlarmPresence, begin_loc, hp, Bool.false_eq_true, if_false]
      rfl

/-- The loop of PROCESS_ALARMS runs as its pseudocode says (R304). -/
theorem runs_drain (h : Byte) (fuel : Nat) : ∀ (l : Locals) (t : State) (e : Bool) (u : State),
    pcDrain h fuel l.err t = some (e, u) → ∃ l', Runs i (326 * fuel) [.act .alarmStart, .act (.procFound h)] l t l'
      (setResult true (setCrcErr e u)) := by
  induction fuel with
  | zero => intro l t e u hd; simp [pcDrain] at hd
  | succ m ih =>
    intro l t e u hd
    obtain ⟨l1, hf, he, r⟩ := runs_alarmSearch (i := i) l t
    unfold pcDrain at hd
    rcases hs : pcAlarmSearch t with ⟨found, t1⟩
    rw [hs] at hd hf r
    cases found with
    | none =>
      simp only [Option.some.injEq, Prod.mk.injEq] at hd
      obtain ⟨rfl, rfl⟩ := hd
      simp only at hf
      refine ⟨l1, Runs.mono (m := 324 + 1) (by omega)
        (r.cons (ls' := [.act (.procFound h)]) (Runs.one fun k => ?_) (by simp))⟩
      simp only [line_act, runAct, actProcFound, begin_loc, hf, he, begin_setCrcErr, begin_setResult]
    | some a =>
      simp only at hd hf
      by_cases hc : addrCrcOk t1.params a
      · simp only [hc, if_true] at hd
        obtain ⟨l', r'⟩ := ih l1 (emitCallback h a t1) e u (by rw [he]; exact hd)
        refine ⟨l', Runs.mono (m := 324 + (1 + 326 * m + 1)) (by omega)
          (r.cons (ls' := [.act (.procFound h)]) (Runs.pushes
            (ls := [.callback h a, .act .alarmStart, .act (.procFound h)]) (fun k => ?_)
            (Runs.cons (ls' := [.act .alarmStart, .act (.procFound h)])
              (Runs.one fun k => line_callback i l1 k t1 h a) r' (by simp)) (by simp)) (by simp))⟩
        simp only [line_act, runAct, actProcFound, begin_loc, hf, begin_params, hc, if_true]
      · simp only [hc, Bool.false_eq_true, if_false] at hd
        obtain ⟨l', r'⟩ := ih { l1 with err := true } t1 e u hd
        refine ⟨l', Runs.mono (m := 324 + (326 * m + 1)) (by omega)
          (r.cons (ls' := [.act (.procFound h)]) (Runs.line (l' := { l1 with err := true }) (t' := t1)
            (ls := [.act .alarmStart, .act (.procFound h)]) (fun k => ?_) r' (by simp)) (by simp))⟩
        simp only [line_act, runAct, actProcFound, begin_loc, hf, begin_params, hc, Bool.false_eq_true, if_false]
        rfl

end Sys2Proof.Machine
end

