-- ==== Sys2Proof/Laws/PerInstr.lean ====
section
/-! SUPPORT. One lemma per command of the families LAWS.json names. -/

namespace Sys2Proof

/-- The code of a command decodes to it, is a code R113 assigns, and is the command's whole word (30_encoding.md R110,
R113, R117). -/
def Laws.CodeRoundTrip.Statement (i : Instr) : Prop :=
  decode (encode i) = .ok i ∧ wellFormedCode (encode i) = true ∧ decodeTableWord 8 (encode i).toNat = some i

theorem Laws.CodeRoundTrip.nop : Laws.CodeRoundTrip.Statement .nop := by
  refine ⟨rfl, ?_, ?_⟩ <;> decide

theorem Laws.CodeRoundTrip.init : Laws.CodeRoundTrip.Statement .init := by
  refine ⟨rfl, ?_, ?_⟩ <;> decide

theorem Laws.CodeRoundTrip.crcClr : Laws.CodeRoundTrip.Statement .crcClr := by
  refine ⟨rfl, ?_, ?_⟩ <;> decide

theorem Laws.CodeRoundTrip.crcPush : Laws.CodeRoundTrip.Statement .crcPush := by
  refine ⟨rfl, ?_, ?_⟩ <;> decide

theorem Laws.CodeRoundTrip.validAddr : Laws.CodeRoundTrip.Statement .validAddr := by
  refine ⟨rfl, ?_, ?_⟩ <;> decide

theorem Laws.CodeRoundTrip.addrEq : Laws.CodeRoundTrip.Statement .addrEq := by
  refine ⟨rfl, ?_, ?_⟩ <;> decide

theorem Laws.CodeRoundTrip.getAddr : Laws.CodeRoundTrip.Statement .getAddr := by
  refine ⟨rfl, ?_, ?_⟩ <;> decide

theorem Laws.CodeRoundTrip.getCount : Laws.CodeRoundTrip.Statement .getCount := by
  refine ⟨rfl, ?_, ?_⟩ <;> decide

theorem Laws.CodeRoundTrip.isConn : Laws.CodeRoundTrip.Statement .isConn := by
  refine ⟨rfl, ?_, ?_⟩ <;> decide

theorem Laws.CodeRoundTrip.isConnSp : Laws.CodeRoundTrip.Statement .isConnSp := by
  refine ⟨rfl, ?_, ?_⟩ <;> decide

theorem Laws.CodeRoundTrip.readSp : Laws.CodeRoundTrip.Statement .readSp := by
  refine ⟨rfl, ?_, ?_⟩ <;> decide

theorem Laws.CodeRoundTrip.writeSp : Laws.CodeRoundTrip.Statement .writeSp := by
  refine ⟨rfl, ?_, ?_⟩ <;> decide

theorem Laws.CodeRoundTrip.getRes : Laws.CodeRoundTrip.Statement .getRes := by
  refine ⟨rfl, ?_, ?_⟩ <;> decide

theorem Laws.CodeRoundTrip.setRes : Laws.CodeRoundTrip.Statement .setRes := by
  refine ⟨rfl, ?_, ?_⟩ <;> decide

theorem Laws.CodeRoundTrip.setGres : Laws.CodeRoundTrip.Statement .setGres := by
  refine ⟨rfl, ?_, ?_⟩ <;> decide

theorem Laws.CodeRoundTrip.readPower : Laws.CodeRoundTrip.Statement .readPower := by
  refine ⟨rfl, ?_, ?_⟩ <;> decide

theorem Laws.CodeRoundTrip.getTh : Laws.CodeRoundTrip.Statement .getTh := by
  refine ⟨rfl, ?_, ?_⟩ <;> decide

theorem Laws.CodeRoundTrip.getTl : Laws.CodeRoundTrip.Statement .getTl := by
  refine ⟨rfl, ?_, ?_⟩ <;> decide

theorem Laws.CodeRoundTrip.setTh : Laws.CodeRoundTrip.Statement .setTh := by
  refine ⟨rfl, ?_, ?_⟩ <;> decide

theorem Laws.CodeRoundTrip.setTl : Laws.CodeRoundTrip.Statement .setTl := by
  refine ⟨rfl, ?_, ?_⟩ <;> decide

theorem Laws.CodeRoundTrip.calcTemp : Laws.CodeRoundTrip.Statement .calcTemp := by
  refine ⟨rfl, ?_, ?_⟩ <;> decide

theorem Laws.CodeRoundTrip.getTemp : Laws.CodeRoundTrip.Statement .getTemp := by
  refine ⟨rfl, ?_, ?_⟩ <;> decide

theorem Laws.CodeRoundTrip.getTempIdx : Laws.CodeRoundTrip.Statement .getTempIdx := by
  refine ⟨rfl, ?_, ?_⟩ <;> decide

theorem Laws.CodeRoundTrip.reqTemps : Laws.CodeRoundTrip.Statement .reqTemps := by
  refine ⟨rfl, ?_, ?_⟩ <;> decide

theorem Laws.CodeRoundTrip.reqTempAddr : Laws.CodeRoundTrip.Statement .reqTempAddr := by
  refine ⟨rfl, ?_, ?_⟩ <;> decide

theorem Laws.CodeRoundTrip.reqTempIdx : Laws.CodeRoundTrip.Statement .reqTempIdx := by
  refine ⟨rfl, ?_, ?_⟩ <;> decide

theorem Laws.CodeRoundTrip.asReset : Laws.CodeRoundTrip.Statement .asReset := by
  refine ⟨rfl, ?_, ?_⟩ <;> decide

theorem Laws.CodeRoundTrip.alarmSearch : Laws.CodeRoundTrip.Statement .alarmSearch := by
  refine ⟨rfl, ?_, ?_⟩ <;> decide

theorem Laws.CodeRoundTrip.hasAlarmAddr : Laws.CodeRoundTrip.Statement .hasAlarmAddr := by
  refine ⟨rfl, ?_, ?_⟩ <;> decide

theorem Laws.CodeRoundTrip.hasAlarmAny : Laws.CodeRoundTrip.Statement .hasAlarmAny := by
  refine ⟨rfl, ?_, ?_⟩ <;> decide

theorem Laws.CodeRoundTrip.processAlarms : Laws.CodeRoundTrip.Statement .processAlarms := by
  refine ⟨rfl, ?_, ?_⟩ <;> decide

end Sys2Proof
end

