-- ==== Sys2Proof/Tests/Slice0.lean ====
section
/-! SUPPORT. Tests, one step each, with the values of spec/95_test_vectors.md ("V…"), and for every statement of
Certificates/Slice0/Obligations.lean with hypotheses a state that meets them (`witness_…`). -/

set_option Elab.async false

namespace Sys2Proof.Tests

open Sys2Proof Sys2Proof.Machine

/-! ### Example data (95_test_vectors.md, "Example data") -/

def a1 : Addr := #v[0x28, 0xFF, 0x4C, 0x60, 0x91, 0x16, 0x03, 0x37]
def a2 : Addr := #v[0x28, 0x61, 0x64, 0x11, 0x8D, 0x9E, 0x2C, 0xBE]
def a3 : Addr := #v[0x22, 0x11, 0x22, 0x33, 0x44, 0x55, 0x66, 0xDD]
def l1 : Addr := #v[0x10, 0x5E, 0x7A, 0x2E, 0x01, 0x08, 0x00, 0xAE]
def u1 : Addr := #v[0x99, 0x01, 0x02, 0x03, 0x04, 0x05, 0x06, 0x20]
def a1x : Addr := #v[0x28, 0xFF, 0x4C, 0x60, 0x91, 0x16, 0x03, 0x36]
def a1c : Addr := #v[0x28, 0xFF, 0x4C, 0x60, 0x91, 0x16, 0x03, 0xC8]

def spa : Pad := #v[0x91, 0x01, 0x4B, 0x46, 0x7F, 0xFF, 0x0F, 0x10, 0x25]
def spb : Pad := #v[0x50, 0x05, 0x4B, 0x46, 0x7F, 0xFF, 0x0C, 0x10, 0x1C]
def spn : Pad := #v[0x5E, 0xFF, 0x19, 0xF6, 0x1F, 0xFF, 0x02, 0x10, 0x29]
def spl : Pad := #v[0x32, 0x00, 0x4B, 0x46, 0xFF, 0xFF, 0x0C, 0x10, 0x6B]
/-- SPA after a resolution of 9 bits was stored (V41.4). -/
def spa9 : Pad := #v[0x91, 0x01, 0x4B, 0x46, 0x1F, 0xFF, 0x0F, 0x10, 0xB5]
def ones : Pad := Vector.replicate 9 0xFF

/-! ### Small states -/

/-- The bus answers these bytes, presence 1 at every reset. -/
def withBytes (ps : List Pad) (s : State) : State :=
  { s with env.bytes := ⟨ps.flatMap Vector.toList, 0⟩, env.presence := ⟨List.replicate 8 true, 0⟩ }

/-- The bus answers these bits. -/
def withBits (bs : List Bool) (s : State) : State :=
  { s with env.bits := ⟨bs, 0⟩, env.presence := ⟨List.replicate 8 true, 0⟩ }

/-- The search answers these addresses and then none. -/
def withSearch (as : List Addr) (s : State) : State := { s with env.found := ⟨as.map some ++ [none], 0⟩ }

/-- The clock advances by so much at each of its readings. -/
def withTicks (ts : List Nat) (s : State) : State := { s with env.ticks := ⟨ts, 0⟩ }

/-- After reset, with an address in `ADDR_IN` and a byte in `ARG`. -/
def start (a : Addr) (v : Byte) : State := { State.reset with addrIn := a, arg := v }

/-- `start` without parasite power and without EEPROM copies. -/
def plain (a : Addr) (v : Byte) : State :=
  { start a v with status.parasite := false, ctrl := ⟨true, true, false⟩ }

/-- The outcome is a next state, the command has ended, and the state is as `p` says. -/
def ends (o : Host.Outcome State Fault Refusal) (p : State → Bool) : Bool :=
  match o with
  | .next s => !s.status.busy && p s
  | _ => false

/-- The outcome is a next state as `p` says. -/
def goes (o : Host.Outcome State Fault Refusal) (p : State → Bool) : Bool :=
  match o with
  | .next s => p s
  | _ => false

/-! ### Well-formedness -/

theorem test_code_refused : wellFormedCode 0x02 = false ∧ wellFormedCode 0xFF = false ∧ wellFormedCode 0x54 = true := by
  decide

theorem test_defaults_wellFormed : defaultParams.wellFormed = true := by decide

theorem test_three_families_refused : familyCodesOk (defaultFamily.take 3) = false := by decide

theorem test_code_twice_refused : familyCodesOk (defaultFamily.take 3 ++ [(0x28, standardFamily)]) = false := by decide

theorem test_two_legacy_refused : legacyOk ((0x42, legacyFamily) :: defaultFamily) = false := by decide

theorem test_legacy_not_fixed_refused :
    legacyOk [(0x10, { legacyFamily with fixedRes := some .r9 })] = false := by decide

theorem test_scale_refused : Scale.wellFormed ⟨0, 1⟩ = false ∧ Scale.wellFormed ⟨1, 0⟩ = false := by decide

theorem test_masks_refused : resMaskOk ⟨0x1F, 0x3F, 0x1F, 0x7F⟩ = false := by decide

theorem test_times_refused : tConvOk ⟨93750, 187500, 187500, 750000⟩ = false := by decide

theorem test_sentinel_in_range_refused :
    discFpOk (BitVec.ofInt 32 (-7040)) = false ∧ discFpOk (BitVec.ofInt 32 16000) = false ∧
      discFpOk (BitVec.ofInt 32 (-7041)) = true := by decide

theorem test_resFail_refused : resFailOk 9 = false ∧ resFailOk 12 = false ∧ resFailOk 13 = true := by decide

theorem test_params_refused :
    [{ defaultParams with family := [] }, { defaultParams with resMask := ⟨0, 0, 1, 2⟩ },
      { defaultParams with tConv := ⟨0, 0, 1, 2⟩ }, { defaultParams with discFp := 0 },
      { defaultParams with resFail := 10 },
      { defaultParams with family := defaultFamily.map (fun e => (e.1, { e.2 with convScale := ⟨1, 0⟩ })) },
      { defaultParams with family := defaultFamily.map (fun e => (e.1, standardFamily)) }].map Params.wellFormed
      = List.replicate 7 false := by decide

/-! ### Decoding: words written out from the `encoding` column of R113 -/

theorem test_decode_control : decode 0b00000000#8 = .ok .nop ∧ decode 0b00000001#8 = .ok .init := ⟨rfl, rfl⟩
theorem test_decode_crc : decode 0b00010001#8 = .ok .crcPush := rfl
theorem test_decode_registry : decode 0b00011010#8 = .ok .getAddr ∧ decode 0b00011101#8 = .ok .isConnSp := ⟨rfl, rfl⟩
theorem test_decode_scratchpad : decode 0b00100001#8 = .ok .writeSp ∧ decode 0b00101001#8 = .ok .setTl := ⟨rfl, rfl⟩
theorem test_decode_decoder : decode 0b00110010#8 = .ok .getTempIdx := rfl
theorem test_decode_conversion : decode 0b01000001#8 = .ok .reqTempAddr := rfl
theorem test_decode_alarm : decode 0b01010100#8 = .ok .processAlarms := rfl

theorem test_decode_illegal : decode 0b00000010#8 = .error (.illegalCommand 0x02) := rfl

theorem test_table_word : decodeTableWord 8 0x31 = some .getTemp ∧ decodeTableWord 8 0x33 = none ∧
    decodeTableWord 8 0x131 = none ∧ decodeTableWord 16 0x31 = none := by decide

theorem test_fetch_word : goes (step (State.reset.withFetchWord 8 0x10))
    (fun s => s.lastCmd == 0x10 && s.status.result && !s.status.busy) = true := by decide +kernel

/-! ### One step of each command -/

/-- V43.3: NOP performs no bus primitive and leaves the pull-up (STATUS 0x62). -/
theorem test_nop : ends (exec .nop { State.reset with status.pullupOn := true })
    (fun s => statusByte s.status == 0x62 && s.trace.isEmpty) = true := by decide +kernel

/-- V40.8: A1 with SPA and L1, parasite: 2 devices, 12 bits, STATUS 0x22. -/
theorem test_init : ends (exec .init (withSearch [a1, l1] (withBits [true, false] (withBytes [spa] State.reset))))
    (fun s => s.deviceCount == 2 && s.globalRes == .r12 && statusByte s.status == 0x22) = true := by decide +kernel

/-- V40.8: the empty bus. -/
theorem test_init_empty : ends (exec .init (withSearch [] { State.reset with globalRes := .r10 }))
    (fun s => s.deviceCount == 0 && s.globalRes == .r10 && statusByte s.status == 0x02) = true := by decide +kernel

theorem test_crcClr : ends (exec .crcClr { State.reset with crcAcc := 0x5A })
    (fun s => s.crcAcc == 0 && s.status.result) = true := by decide +kernel

/-- V40.2: BC after 02, then AF after 1C. -/
theorem test_crcPush : ends (exec .crcPush (start a1 0x02)) (fun s => s.crcAcc == 0xBC && !s.status.result) = true := by
  decide +kernel

theorem test_crcPush_zero : ends (exec .crcPush { start a1 0xA2 with crcAcc := 0xA2 })
    (fun s => s.crcAcc == 0x00 && s.status.result) = true := by decide +kernel

/-- V40.3. -/
theorem test_validAddr : [a1, a2, a3, l1, a1x, u1].map
    (fun a => ends (exec .validAddr (start a 0)) (·.status.result)) = [true, true, true, true, false, false] := by
  decide +kernel

/-- V40.4. -/
theorem test_addrEq : [a1, a1x, l1].map
    (fun a => ends (exec .addrEq { start a1 0 with addrCmp := a }) (·.status.result)) = [true, false, false] := by
  decide +kernel

/-- V40.5: index 1 of A1, L1. -/
theorem test_getAddr : ends (exec .getAddr (withSearch [a1, l1] (start a1 1)))
    (fun s => s.status.result && s.addrOut == l1 && s.trace == [.searchReset, .searchNext (some a1),
      .searchNext (some l1)]) = true := by decide +kernel

/-- V40.5: the invalid U1 comes first. -/
theorem test_getAddr_invalid : ends (exec .getAddr (withSearch [u1, l1] (start a1 1)))
    (fun s => !s.status.result && s.trace == [.searchReset, .searchNext (some u1)]) = true := by decide +kernel

/-- V40.6. -/
theorem test_getCount : ends (exec .getCount (withSearch [a1, u1, l1] State.reset))
    (fun s => s.status.result && s.deviceCount == 2) = true := by decide +kernel

/-- V40.7. -/
theorem test_isConn : ends (exec .isConn (withBytes [spa] (start a1 0)))
    (fun s => s.status.result && s.spBuf == Vector.replicate 9 0) = true := by decide +kernel

/-- V40.7. -/
theorem test_isConnSp : ends (exec .isConnSp (withBytes [ones] (start a1 0)))
    (fun s => !s.status.result && s.spBuf == ones) = true := by decide +kernel

/-- V41.1. -/
theorem test_readSp : ends (exec .readSp (withBytes [spa] (start a1 0)))
    (fun s => s.spBuf == spa && statusByte s.status == 0x22 &&
      s.trace == [.reset true, .select a1, .writeByte 0xBE] ++ spa.toList.map .readByte) = true := by decide +kernel

/-- V41.2, second row: the copy under parasite power. -/
theorem test_writeSp : ends (exec .writeSp (withTicks [0] (withBits [] { start a1 0 with spBuf := spa })))
    (fun s => s.status.result && s.clock == 10000 && s.trace == [.reset true, .select a1, .writeByte 0x4E,
      .writeByte 0x4B, .writeByte 0x46, .writeByte 0x7F, .reset true, .select a1, .writeByte 0x48, .setPullup true,
      .delay 10000, .setPullup false]) = true := by decide +kernel

/-- V41.2: no copy for an unknown family. -/
theorem test_writeSp_unknown : ends (exec .writeSp { start u1 0 with spBuf := spa })
    (fun s => s.trace.length == 6) = true := by decide +kernel

/-- V41.3. -/
theorem test_getRes : ends (exec .getRes (withBytes [spn] (start a2 0)))
    (fun s => s.status.result && s.resOut == 9) = true := by decide +kernel

/-- V41.3: the configuration 0x60 is no mask; the legacy device needs no bus. -/
theorem test_getRes_fail :
    ends (exec .getRes (withBytes [#v[0x91, 0x01, 0x4B, 0x46, 0x60, 0xFF, 0x0F, 0x10, 0x87]] (start a1 0)))
      (fun s => !s.status.result && s.resOut == 0) = true ∧
    ends (exec .getRes (start l1 0)) (fun s => s.status.result && s.resOut == 12 && s.trace.isEmpty) = true := by
  decide +kernel

/-- V41.4: the request 0 is clamped to 9; the whole history. -/
theorem test_setRes : ends (exec .setRes (withBytes [spa, spa9] (plain a1 0)))
    (fun s => s.status.result && s.trace == [.reset true, .select a1, .writeByte 0xBE] ++ spa.toList.map .readByte ++
      [.reset true, .select a1, .writeByte 0x4E, .writeByte 0x4B, .writeByte 0x46, .writeByte 0x1F,
        .reset true, .select a1, .writeByte 0xBE] ++ spa9.toList.map .readByte) = true := by decide +kernel

/-- V41.4: a device that ignores writes. -/
theorem test_setRes_ignored : ends (exec .setRes (withBytes [spa, spa] (plain a1 10)))
    (fun s => !s.status.result) = true := by decide +kernel

/-- V41.5: the hint is set although the only device ignores writes. -/
theorem test_setGres : ends (exec .setGres (withSearch [a1] (withBytes [spa, spa] (plain a1 11))))
    (fun s => !s.status.result && s.globalRes == .r11) = true := by decide +kernel

/-- V41.5: the empty bus. -/
theorem test_setGres_empty : ends (exec .setGres (withSearch [] (start a1 0)))
    (fun s => s.status.result && s.globalRes == .r9 && s.trace == [.searchReset, .searchNext none]) = true := by
  decide +kernel

/-- V41.6. -/
theorem test_readPower : [false, true].map (fun v => ends (exec .readPower (withBits [v] (start a1 0)))
    (fun s => s.status.result && s.status.parasite)) = [true, false] := by decide +kernel

/-- V41.7. -/
theorem test_getTh : ends (exec .getTh (withBytes [spa] (start a1 0)))
    (fun s => s.status.result && s.alarmT == 0x4B) = true := by decide +kernel

/-- V41.7. -/
theorem test_getTl : ends (exec .getTl (withBytes [spa] (start a1 0))) (fun s => s.status.result && s.alarmT == 0x46) = true ∧
    ends (exec .getTl (withBytes [ones] (start a1 0))) (fun s => !s.status.result && s.alarmT == 0x81) = true := by
  decide +kernel

/-- V41.7: 127 is clamped to 125. -/
theorem test_setTh : ends (exec .setTh (withBytes [spa] (plain a1 0x7F)))
    (fun s => s.status.result && s.trace.drop 14 == [.writeByte 0x4E, .writeByte 0x7D, .writeByte 0x46,
      .writeByte 0x7F]) = true := by decide +kernel

/-- V41.7: -128 is clamped to -55. -/
theorem test_setTl : ends (exec .setTl (withBytes [spa] (plain a1 0x80)))
    (fun s => s.status.result && s.trace.drop 14 == [.writeByte 0x4E, .writeByte 0x4B, .writeByte 0xC9,
      .writeByte 0x7F]) = true := by decide +kernel

/-- V42.4, V42.1. -/
theorem test_calcTemp : [(spa, 3208), (spb, 10880), (spn, -1344)].all (fun e =>
    ends (exec .calcTemp { start a1 0 with spBuf := e.1 })
      (fun s => s.status.result && s.trace.isEmpty && s.tempFp == BitVec.ofInt 32 e.2)) = true := by decide +kernel

/-- V42.3 and V42.2: the legacy family; an unknown family gives the sentinel. -/
theorem test_calcTemp_legacy :
    ends (exec .calcTemp { start l1 0 with spBuf := #v[0x33, 0x00, 0x4B, 0x46, 0xFF, 0xFF, 0x0C, 0x10, 0x28] })
      (fun s => s.status.result && s.tempFp == 3200) = true ∧
    ends (exec .calcTemp { start u1 0 with spBuf := spa }) (fun s => !s.status.result && s.tempFp == -16256) = true := by
  decide +kernel

/-- V42.4 and V43.3: the pending pull-up is released first. -/
theorem test_getTemp : ends (exec .getTemp (withBytes [spa] { start a1 0 with status.pullupOn := true }))
    (fun s => s.tempFp == 3208 && statusByte s.status == 0x22 &&
      s.trace.take 3 == [.setPullup false, .reset true, .select a1]) = true := by decide +kernel

/-- V42.4: index 1 of A1, L1; L1 answers SPL. -/
theorem test_getTempIdx : ends (exec .getTempIdx (withSearch [a1, l1] (withBytes [spl] (start a1 1))))
    (fun s => s.status.result && s.tempFp == 3200 && s.trace.length == 15) = true := by decide +kernel

/-- V42.4: index 5 with one device. -/
theorem test_getTempIdx_none : ends (exec .getTempIdx (withSearch [a1] (start a1 5)))
    (fun s => !s.status.result && s.tempFp == -16256 && s.trace.length == 3) = true := by decide +kernel

/-- V43.1, third row: the delay policy under parasite power. -/
theorem test_reqTemps : ends (exec .reqTemps (withTicks [0] (withBits [] State.reset)))
    (fun s => statusByte s.status == 0x22 && s.phase == .idle && s.clock == 750000 && s.trace == [.reset true,
      .writeByte 0xCC, .writeByte 0x44, .setPullup true, .delay 750000, .setPullup false]) = true := by decide +kernel

/-- V43.1, fourth row: the disabled wait leaves the pull-up on. -/
theorem test_reqTemps_disabled : ends (exec .reqTemps (withBits [] { State.reset with ctrl := ⟨false, true, true⟩ }))
    (fun s => statusByte s.status == 0x62 && s.trace.drop 3 == [.setPullup true]) = true := by decide +kernel

/-- R261 as the host sees it (R87): with the wait PHASE is 0, 1, 2, 3, 0; with the disabled wait it is never 3. -/
theorem test_reqTemps_phases : [true, false].map (fun w => ((List.range 16).map (fun k =>
      hostByte (runBlock k (beginCommand .reqTemps Locals.start (convertAllLines State.reset)
        (withTicks [0] (withBits [] { State.reset with ctrl.waitEn := w })))) 0x0A)).eraseReps)
    = [[0, 1, 2, 3, 0], [0, 1, 2, 0]] := by decide +kernel

/-- V43.4: an unknown family fails fast. -/
theorem test_reqTempAddr : ends (exec .reqTempAddr (start u1 0))
    (fun s => !s.status.result && s.trace.isEmpty) = true := by decide +kernel

/-- V43.5: the poll answers 0 then 1. -/
theorem test_reqTempIdx : ends (exec .reqTempIdx (withTicks [0, 1000] (withSearch [a1, l1] (withBits [false, true]
      { start a1 0 with status.parasite := false }))))
    (fun s => s.status.result && s.trace == [.searchReset, .searchNext (some a1), .reset true, .select a1,
      .writeByte 0x44, .readBit false, .readBit true]) = true := by decide +kernel

/-- V43.2 with a small bound: the poll stops at the first check beyond it, with RESULT 1. -/
theorem test_poll_timeout : ends (exec .reqTemps (withTicks [5, 93750, 1] (withBits [false, false, true]
      { State.reset with status.parasite := false, globalRes := .r9 })))
    (fun s => s.status.result && s.trace.drop 3 == [.readBit false, .readBit false]) = true := by decide +kernel

theorem test_asReset : ends (exec .asReset { State.reset with
    asAddr := a1, asJunction := 9, status.asExhausted := true })
    (fun s => s.asAddr == Vector.replicate 8 0 && s.asJunction == -1 && statusByte s.status == 0x22) = true := by
  decide +kernel

/-- V44.1, call 1. -/
theorem test_alarmSearch : ends (exec .alarmSearch (withBits (slotAnswers [a2, a1, a3] a2) State.reset))
    (fun s => s.addrOut == a2 && s.asJunction == 9 && statusByte s.status == 0x22 && s.trace.length == 194) = true := by
  decide +kernel

/-- V44.4: a device that answers with a wrong CRC. -/
theorem test_alarmSearch_crc : ends (exec .alarmSearch (withBits (slotAnswers [a1c] a1c) State.reset))
    (fun s => s.addrOut == a1c && statusByte s.status == 0xB2) = true := by decide +kernel

/-- V44.6: SPA is in alarm (25 < 70); exactly 75 degrees is not. -/
theorem test_hasAlarmAddr : [spa, spb, spn, #v[0xB0, 0x04, 0x4B, 0x46, 0x7F, 0xFF, 0x10, 0x10, 0xF3],
      #v[0xBF, 0x04, 0x4B, 0x46, 0x7F, 0xFF, 0x10, 0x10, 0x09], #v[0xC0, 0x04, 0x4B, 0x46, 0x7F, 0xFF, 0x10, 0x10, 0x46],
      #v[0x5F, 0xFF, 0x19, 0xF6, 0x7F, 0xFF, 0x10, 0x10, 0x87], ones].map
    (fun sp => ends (exec .hasAlarmAddr (withBytes [sp] (start a1 0))) (·.status.result))
    = [true, true, true, false, false, true, true, false] := by decide +kernel

/-- V44.3: the empty bus, presence 0. -/
theorem test_hasAlarmAny_empty : ends (exec .hasAlarmAny { State.reset with env.presence := ⟨[false], 0⟩ })
    (fun s => statusByte s.status == 0xA0 && s.trace == [.reset false]) = true := by decide +kernel

/-- V44.5. -/
theorem test_hasAlarmAny : ends (exec .hasAlarmAny (withBits (slotAnswers [a2, a1, a3] a2)
      { State.reset with asAddr := a3, status.asExhausted := true }))
    (fun s => s.addrOut == a2 && s.asJunction == 9 && statusByte s.status == 0x22) = true := by decide +kernel

/-- V44.7 on three devices, one of them with a wrong CRC: no callback for it. -/
theorem test_processAlarms : ends (exec .processAlarms (withBits ([a2, a1c, a1].flatMap (slotAnswers [a2, a1c, a1]))
      { State.reset with handlerId := 3 }))
    (fun s => statusByte s.status == 0xB2 && s.addrOut == Vector.replicate 8 0 &&
      s.trace.filter (fun e => match e with | .callback _ _ => true | _ => false)
        == [.callback 3 a2, .callback 3 a1]) = true := by decide +kernel

/-! ### Host accesses and exceptions -/

/-- The host does `t` next. -/
def host (t : Turn) (s : State) : State := { s with env.turns := [t] }

/-- R82: every offset on a state whose registers all differ. -/
theorem test_register_map : (List.range 64).map (fun n => hostByte { State.reset with
      lastCmd := 0x31, status := ⟨true, false, true, false, false, true, false, true⟩, ctrl := ⟨false, true, true⟩,
      arg := 0x41, handlerId := 0x42, globalRes := .r10, deviceCount := 0x43, resOut := 0x44, alarmT := 0x45,
      crcAcc := 0x46, phase := .complete, tempFp := 0xD4C3B2A1, addrIn := a1, addrCmp := a2, addrOut := l1, spBuf := spa }
      (BitVec.ofNat 6 n))
    = [0x31, 0xA5, 0x06, 0x41, 0x42, 0x0A, 0x43, 0x44, 0x45, 0x46, 0x03, 0x00, 0xA1, 0xB2, 0xC3, 0xD4] ++ a1.toList ++
      a2.toList ++ l1.toList ++ spa.toList ++ List.replicate 15 0x00 := by decide +kernel

/-- A command is in progress: NOP's only line is still to run. -/
def busyNop : State := beginCommand .nop Locals.start [.act (.result true)] State.reset

/-- V60.1: an unassigned code, and its acknowledgement. -/
theorem test_illegal : goes (step (host (.write 0x00 0x02) State.reset))
      (fun s => statusByte s.status == 0x24 && s.lastCmd == 0x02 && s.trace.isEmpty) = true ∧
    goes (step (host (.write 0x01 0x04) { State.reset with status.illegal := true }))
      (fun s => statusByte s.status == 0x20) = true := by decide +kernel

/-- V60.2: writes to CMD and ARG while BUSY are discarded and OVERRUN is set. -/
theorem test_overrun : goes (step (host (.write 0x00 0x10) busyNop))
      (fun s => s.status.overrun && s.status.busy && s.lastCmd == 0x00) = true ∧
    goes (step (host (.write 0x03 0x05) busyNop)) (fun s => s.status.overrun && s.arg == 0x00) = true := by
  decide +kernel

/-- R373: reset during a command. -/
theorem test_reset_midway : goes (step (host .reset { busyNop with crcAcc := 0x77 }))
    (fun s => !s.status.busy && s.crcAcc == 0 && s.seq == Micro.none) = true := by decide +kernel

/-- R111 with quantum 0: NOP, a command of one line, is BUSY after the request, a second request overruns, and the next
step of the block ends it. -/
theorem test_busy_from_request : goes (step (host (.write 0x00 0x00) { State.reset with quantum := 0 }))
      (fun s => s.status.busy && !s.status.result &&
        goes (step (host (.write 0x00 0x10) s)) (fun t => t.status.busy && t.status.overrun && t.lastCmd == 0x00) &&
        goes (step s) (fun t => !t.status.busy && t.status.result)) = true := by decide +kernel

/-- A pull-up left asserted, and a bus reset to perform. -/
def pendingReset : State :=
  { beginCommand .isConn Locals.start [.reset, .act .isConn] State.reset with status.pullupOn := true, quantum := 0 }

/-- A delay about to begin. -/
def inDelay : State := { beginCommand .reqTemps Locals.start [.delay 7, .act .waitEnd] State.reset with quantum := 0 }

/-- R97, R373: the reset input lands between the pending release and the primitive it comes before. -/
theorem test_reset_after_release : goes (step pendingReset) (fun s => s.status.busy && !s.status.pullupOn &&
      s.trace == [.setPullup false] &&
      goes (step (host .reset s)) (fun t => !t.status.busy && t.trace == [.setPullup false])) = true := by decide +kernel

/-- R96, R373: the reset input cuts a begun delay short. -/
theorem test_reset_in_delay : goes (step inDelay) (fun s => s.status.busy && s.trace == [.delay 7] && s.clock == 0 &&
      goes (step (host .reset s)) (fun t => !t.status.busy && t.clock == 0)) = true := by decide +kernel

/-! ### Witnesses: states that meet the hypotheses of the statements, clause by clause -/

theorem witness_Roomy : Roomy State.reset ∧ Roomy { State.reset with quantum := 2048 } := by
  constructor <;> (unfold Roomy; decide)

/-- The hypothesis of NopSetsResult, CrcCommands, ValidAddrChecksCrcAndFamily, AddrEqCompares, TemperatureOfAPad and
ReqTempAddrResult (with an invalid address), and its least value. -/
theorem witness_quantum : 0 < State.reset.quantum ∧
    isValidAddr defaultParams ({ start a1x 0 with quantum := 1 } : State).addrIn = false ∧
    [Instr.nop, .crcClr, .crcPush, .validAddr, .addrEq, .calcTemp, .reqTempAddr].all
      (fun i => ends (exec i { start a1x 0 with quantum := 1 }) (fun _ => true)) = true := by decide +kernel

/-- A sound state with no command in progress: idle in every respect. -/
theorem sound_of_idle (s : State) (hb : s.status.busy = false) (hm : s.seq = Micro.none) (hp : s.phase = .idle)
    (hj : -1 ≤ s.asJunction ∧ s.asJunction ≤ 63) : Sound s where
  busy_iff := by simp [hb, hm, Micro.none]
  idle_micro := fun _ => hm
  micro := by simp [hm, Micro.none, microOk]
  phase := by rw [endsIdle, hm, hp]; rfl
  junction := hj
  last := by simp [hm, Micro.none, Locals.start]
  bitIndex := by simp [hm, Micro.none, Locals.start]
  count := by simp [hm, Micro.none, Locals.start]

/-- A sound state with a command in progress. -/
theorem witness_Sound_busy : Sound busyNop ∧ busyNop.status.busy = true where
  left := ⟨by decide, by decide, by decide, by decide, by decide, by decide, by decide, by decide⟩
  right := rfl

theorem witness_DecodingIsTotal : Instr.wellFormed .getTemp = true ∧ (16 : Nat) ≠ 8 := by decide

theorem witness_StepRunsTheRequestedCommand :
    (host (.write 0x00 0x31) State.reset).status.busy = false ∧
    (host (.write 0x00 0x31) State.reset).env.turns = [.write 0x00 0x31] ∧ decode 0x31 = .ok .getTemp ∧
    ({ State.reset with quantum := 0 } : State).quantum = 0 := ⟨rfl, rfl, rfl, rfl⟩

theorem witness_IllegalRequestTakesTheException :
    (host (.write 0x00 0xFF) State.reset).status.busy = false ∧
    (host (.write 0x00 0xFF) State.reset).env.turns = [.write 0x00 0xFF] ∧ wellFormedCode 0xFF = false ∧
    wellFormedCode 0x02 = false := by decide

/-- Each clause at the ends of its offsets: acknowledged, overrun, ignored. -/
theorem witness_WritesWhileBusy :
    goes (step (host (.write 0x01 0x0C) { busyNop with status.overrun := true })) (fun s => !s.status.overrun) = true ∧
    [0x00, 0x02, 0x03, 0x04, 0x10, 0x1F, 0x28, 0x30].all
      (fun off => goes (step (host (.write off 0xFF) busyNop)) (·.status.overrun)) = true ∧
    [0x05, 0x0F, 0x20, 0x27, 0x31, 0x3F].all
      (fun off => goes (step (host (.write off 0xFF) busyNop)) (fun s => !s.status.overrun)) = true := by
  decide +kernel

/-- Each clause at the ends of its offsets. -/
theorem witness_WritesWhileIdle :
    [0x01, 0x02, 0x03, 0x04, 0x10, 0x17, 0x18, 0x1F, 0x28, 0x30].all (fun off =>
      goes (step (host (.write off 0x05) State.reset)) (fun s => !s.status.busy &&
        hostByte s off == if off = 0x01 then 0x20 else 0x05)) = true := by decide +kernel

/-- Each clause at the ends of its offsets. -/
theorem witness_ReservedAndReadOnlyOffsets :
    [0x0B, 0x31, 0x3F].all (fun off => goes (step (host (.read off) State.reset)) (fun s => s.reads == [(off, 0)]))
      = true ∧
    [0x05, 0x0F, 0x20, 0x27, 0x31, 0x3F].all (fun off =>
      goes (step (host (.write off 0x05) State.reset)) (fun s => s == State.reset)) = true ∧
    goes (step (host (.write 0x02 0xFA) State.reset)) (fun s => hostByte s 0x02 == 0x02) = true := by decide +kernel

/-- Idle and busy. The byte a busy result register answers is free, so only the read itself is seen. -/
theorem witness_HostReadsHaveNoSideEffect :
    goes (step (host (.read 0x05) State.reset)) (fun s => s.reads == [(0x05, 0x0C)]) = true ∧
    goes (step (host (.read 0x30) busyNop)) (fun s => s.reads.map Prod.fst == [0x30]) = true ∧
    goes (step (host (.read 0x01) busyNop)) (fun s => s.reads == [(0x01, 0x21)]) = true := by decide +kernel

theorem witness_ResetFromAnyState : (host .reset busyNop).env.turns = [.reset] ∧ busyNop ≠ State.reset := by decide

/-- A running command without waiting turns; a release that is due; a Delay with a line after it. -/
theorem witness_StepsRunTheLines : State.reset.env.turns = [] ∧ busyNop.env.turns = [] ∧
    (pendingReset.seq.todo = [.reset, .act .isConn] ∧ busPrimitive .reset = true ∧ pendingReset.status.pullupOn = true) ∧
    inDelay.seq.todo = [.delay 7, .act .waitEnd] := ⟨rfl, rfl, ⟨rfl, rfl, rfl⟩, rfl⟩

theorem witness_QuantumDoesNotMatter : State.reset.env.turns = [] ∧
    ends (exec .asReset State.reset) (fun _ => true) = true := by decide +kernel

/-- A read and a write to a running command. -/
theorem witness_HostCannotReachTheCommand : busyNop.status.busy = true ∧
    (host (.read 0x05) busyNop).env.turns = [.read 0x05] ∧
    (host (.write 0x00 0x10) busyNop).env.turns = [.write 0x00 0x10] := ⟨rfl, rfl, rfl⟩

/-- Both bits set, and kept by a step of the block, cleared by a W1C write. -/
theorem witness_StickyBitsStay :
    goes (step { busyNop with status.illegal := true, status.overrun := true })
      (fun s => s.status.illegal && s.status.overrun) = true ∧
    goes (step (host (.write 0x01 0x04) { busyNop with status.illegal := true, status.overrun := true }))
      (fun s => !s.status.illegal && s.status.overrun) = true := by decide +kernel

/-- A pending pull-up is released before the first primitive of the command. -/
theorem witness_PullupIsMirroredAndReleased :
    goes (step (host (.write 0x00 0x20) (withBytes [spa] { start a1 0 with status.pullupOn := true })))
      (fun s => s.trace.head? == some (.setPullup false) && !s.status.pullupOn) = true ∧
    goes (step (host (.write 0x00 0x40) { State.reset with ctrl := ⟨false, true, true⟩ }))
      (fun s => s.status.pullupOn) = true := by decide +kernel

/-- Sound states whose next step is a command that changes the summary of each clause. -/
theorem witness_OnlyRefreshersWriteTheSummaries :
    Sound (host (.write 0x00 0x24) (withSearch [] State.reset)) ∧ Sound (host (.write 0x00 0x01) (withSearch [] State.reset)) ∧
    Sound (host (.write 0x00 0x1B) (withSearch [a1] State.reset)) ∧
    goes (step (host (.write 0x00 0x24) (withSearch [] State.reset))) (fun s => s.globalRes != .r12) = true ∧
    goes (step (host (.write 0x00 0x01) (withSearch [] State.reset))) (fun s => !s.status.parasite) = true ∧
    goes (step (host (.write 0x00 0x1B) (withSearch [a1] State.reset))) (fun s => s.deviceCount != 0) = true :=
  ⟨sound_of_idle _ rfl rfl rfl (by decide), sound_of_idle _ rfl rfl rfl (by decide),
    sound_of_idle _ rfl rfl rfl (by decide), by decide +kernel, by decide +kernel, by decide +kernel⟩

/-- A bus on which every result command has something to say. -/
def busy1 : State := withSearch [a1] (withBytes [spa] { start a1 0x55 with spBuf := spb })

/-- The state is sound, and the command's step changes its result register. -/
theorem witness_OnlyTheirCommandsWriteResults :
    (∀ t : Turn, Sound (host t busy1)) ∧
    goes (step (host (.write 0x00 0x1A) { busy1 with arg := 0 })) (fun s => s.addrOut != busy1.addrOut) = true ∧
    goes (step (host (.write 0x00 0x20) busy1)) (fun s => s.spBuf != busy1.spBuf) = true ∧
    goes (step (host (.write 0x28 0x01) busy1)) (fun s => s.spBuf != busy1.spBuf) = true ∧
    goes (step (host (.write 0x00 0x30) busy1)) (fun s => s.tempFp != busy1.tempFp) = true ∧
    goes (step (host (.write 0x00 0x22) busy1)) (fun s => s.resOut != busy1.resOut) = true ∧
    goes (step (host (.write 0x00 0x26) busy1)) (fun s => s.alarmT != busy1.alarmT) = true ∧
    goes (step (host (.write 0x00 0x11) busy1)) (fun s => s.crcAcc != busy1.crcAcc) = true :=
  ⟨fun _ => sound_of_idle _ rfl rfl rfl (show (-1 : Int) ≤ -1 ∧ (-1 : Int) ≤ 63 by decide), by decide +kernel,
    by decide +kernel, by decide +kernel, by decide +kernel, by decide +kernel, by decide +kernel, by decide +kernel⟩

/-- REQ_TEMPS before its first line. -/
def busyReq : State := beginCommand .reqTemps Locals.start (convertAllLines State.reset) State.reset

/-- A search of one device with a wrong CRC after a scan; a conversion seen in the middle, and before its
first line. -/
theorem witness_OnlyAlarmCommandsMoveTheCursor :
    Sound (host (.write 0x00 0x51) (withBits (slotAnswers [a1c] a1c) State.reset)) ∧
    Sound (host (.write 0x00 0x40) { State.reset with quantum := 1 }) ∧
    goes (step (host (.write 0x00 0x51) (withBits (slotAnswers [a1c] a1c) State.reset)))
      (fun s => s.asAddr != Vector.replicate 8 0 && s.status.asExhausted && s.status.addrCrcErr) = true ∧
    goes (step (host (.write 0x00 0x40) { State.reset with quantum := 1 })) (fun s => s.phase == .requested) = true ∧
    State.reset.status.busy = false ∧ Sound busyReq ∧ (tick busyReq).phase = .requested :=
  ⟨sound_of_idle _ rfl rfl rfl (by decide), sound_of_idle _ rfl rfl rfl (by decide), by decide +kernel, by decide +kernel,
    rfl, ⟨by decide, by decide, by decide +kernel, by decide +kernel, by decide, by decide, by decide, by decide⟩, rfl⟩

/-- A step of the block, and a request. -/
theorem witness_CommandsKeepTheOperands : goes (step busyNop) (fun s => s.status.result) = true ∧
    (∀ ts, busyNop.env.turns ≠ .reset :: ts) ∧ (∀ off v ts, busyNop.env.turns ≠ .write off v :: ts) ∧
    goes (step (host (.write 0x00 0x00) State.reset)) (fun s => s.status.result) = true :=
  ⟨by decide +kernel, fun _ => by simp [busyNop, beginCommand, State.reset, Env.reset],
    fun _ _ _ => by simp [busyNop, beginCommand, State.reset, Env.reset], by decide +kernel⟩

/-- Loops that end within their bounds. -/
theorem witness_RoutinesTouchOnlyTheBus :
    (pcCount 2 0 (withSearch [a1] State.reset)).isSome = true ∧
    (pcSurvey 2 ⟨0, false, none⟩ (withSearch [l1] State.reset)).isSome = true ∧
    (pcSetAll .r9 2 true (withSearch [l1] State.reset)).isSome = true ∧
    (pcConvTail 0 5 State.reset).isSome = true ∧
    (pcDrain 3 1 false { State.reset with status.asExhausted := true }).isSome = true := by decide +kernel

theorem witness_CrcConsequences : isValidAddr defaultParams a1 = true ∧ [0x31#8].length ≤ 8 ∧ (7 : Nat) < 8 ∧ (6 : Nat) < 7 := by
  decide +kernel

/-- Found at the last index; not found beyond it; an invalid address on the way. -/
theorem witness_GetAddrFindsTheIndexed :
    (withSearch [a1, l1] (start a1 1)).env.found.script = [a1, l1].map some ++ none :: [] ∧
    ([a1, l1].take 2).all (isValidAddr defaultParams) = true ∧ ([u1, l1].take 2).all (isValidAddr defaultParams) = false ∧
    ends (exec .getAddr (withSearch [a1, l1] (start a1 1))) (·.status.result) = true ∧
    ends (exec .getAddr (withSearch [a1, l1] (start a1 2))) (fun s => !s.status.result) = true := by decide +kernel

theorem witness_GetCountResult :
    (pcCount 4 0 (perform .searchReset (withSearch [a1, u1, l1] State.reset))).map Prod.fst = some 2 ∧
    4 * 4 + 2 ≤ State.reset.quantum := by decide +kernel

theorem witness_GetCountCountsTheValid :
    (withSearch [a1, u1, l1] State.reset).env.found.script = [a1, u1, l1].map some ++ none :: [] ∧
    4 * [a1, u1, l1].length + 6 ≤ State.reset.quantum := by decide +kernel

theorem witness_UnendingSearchKeepsBusy :
    ({ State.reset with quantum := 3, env.found := ⟨[some a1, some a1], 0⟩ } : State).env.found.script
      = [a1, a1].map some ++ [] ∧ 3 < 2 * [a1, a1].length ∧
    goes (exec .getCount { State.reset with quantum := 3, env.found := ⟨[some a1, some a1], 0⟩ })
      (fun s => s.status.busy) = true := by decide +kernel

theorem witness_InitResult :
    (pcSurvey 3 ⟨0, false, none⟩ (perform .searchReset (withSearch [a1, l1] (withBits [true, false] (withBytes [spa]
      State.reset))))).map Prod.fst = some ⟨2, true, some .r12⟩ ∧ 46 * 3 + 2 ≤ State.reset.quantum := by decide +kernel

/-- The copy's three cases. -/
theorem witness_WriteSpResult : State.reset.status.pullupOn = false ∧ wantsCopy (start a1 0) a1 = true ∧
    (start a1 0).status.parasite = true ∧ wantsCopy (start u1 0) u1 = false := by decide +kernel

theorem witness_GetResResult : resMaskOk defaultParams.resMask = true ∧
    (∀ r, (0x60#8) ≠ perRes defaultParams.resMask r) :=
  ⟨by decide, fun r => by cases r <;> decide⟩

/-- A device that stores what is written, and a legacy one. -/
theorem witness_ResolutionRoundTrip :
    resMaskOk State.reset.params.resMask = true ∧ fixedRes defaultParams a1 = none ∧
    fixedRes defaultParams l1 = some .r12 ∧ padCrcOk defaultParams spa = true ∧ padCrcOk defaultParams spa9 = true ∧
    spa9[4] = perRes defaultParams.resMask (clampRes (start a1 9).arg.toNat) ∧
    (withBytes [spa, spa9, spa9] (start a1 9)).env.bytes.script
      = spa.toList ++ spa9.toList ++ spa9.toList ++ [] := by decide +kernel

theorem witness_SetGresResult :
    (pcSetAll (clampRes 11) 2 true (perform .searchReset { withSearch [a1] (withBytes [spa, spa] (plain a1 11)) with
      globalRes := clampRes 11 })).map Prod.fst = some false ∧ 92 * 2 + 4 ≤ State.reset.quantum := by decide +kernel

/-- Every clause's pad: 0xF810 with a standard family at each resolution; -127 degrees with the legacy one, without
COUNT_PER_C and with it. -/
theorem witness_DecodeProperties :
    ((familyOf defaultParams a1[0]).map (fun f => (f.kind, f.fracBits)) = some (.standard, 4) ∧
      ([#v[0x10, 0xF8, 0x4B, 0x46, 0x1F, 0xFF, 0x10, 0x10, 0x18],
       #v[0x10, 0xF8, 0x4B, 0x46, 0x3F, 0xFF, 0x10, 0x10, 0x68],
       #v[0x10, 0xF8, 0x4B, 0x46, 0x5F, 0xFF, 0x10, 0x10, 0xF8],
       #v[0x10, 0xF8, 0x4B, 0x46, 0x7F, 0xFF, 0x10, 0x10, 0x88]] : List Pad).map
        (fun sp => (padCrcOk defaultParams sp, resOf defaultParams sp[4], decide (sp[1] ++ sp[0] = 0xF810#16)))
        = [Resolution.r9, .r10, .r11, .r12].map (fun r => (true, some r, true))) ∧
    (familyOf defaultParams l1[0]).map (·.kind) = some .legacy ∧
    [(#v[0x02, 0xFF, 0x4B, 0x46, 0xFF, 0xFF, 0x0C, 0x00, 0x0C], -127 * 128), (#v[0x03, 0xFF, 0x4B, 0x46, 0xFF, 0xFF, 0x0C, 0x10, 0xD2], -127 * 128)].all
      (fun e : Pad × Int => padCrcOk defaultParams e.1 && decodeLegacy e.1 == e.2) = true ∧
    a1[0] ∈ [0x28#8, 0x22#8, 0x3B#8] ∧ l1[0] = 0x10 := by decide +kernel

theorem witness_ReqTempsResult :
    (pcConvTail 0 750000 (pcStartAll State.reset)).isSome = true ∧ tWaitAll defaultParams .r12 = 750000 ∧
    (pcConvTail 2 750000 (pcStartAll (withTicks [0, 1] (withBits [false, true]
      { State.reset with status.parasite := false })))).isSome = true ∧ 4 * 2 + 32 ≤ State.reset.quantum := by
  decide +kernel

theorem witness_ReqTempAddrResult : isValidAddr defaultParams a1x = false ∧ isValidAddr defaultParams a1 = true ∧
    (pcConvTail 0 (tWaitDev defaultParams .r12 a1) (pcStartOne a1 (start a1 0))).isSome = true := by decide +kernel

/-- Both branches: index 2 of two devices, index 0 of two devices. -/
theorem witness_ReqTempIdxResult :
    (pcGetAddr 2 (withSearch [a1, l1] (start a1 2))).1 = none ∧
    (pcGetAddr 0 (withSearch [a1, l1] (start a1 0))).1 = some a1 ∧
    (pcConvTail 0 (tWaitDev defaultParams .r12 a1) (pcStartOne a1 (pcGetAddr 0 (withSearch [a1, l1] (start a1 0))).2)).isSome
      = true ∧ 4 * 0 + 2048 ≤ State.reset.quantum := by decide +kernel

/-- R262: a family with scale 4/3 beside families with scale 1; the broadcast takes the larger, rounded up. -/
theorem test_tWait :
    let p : Params := { defaultParams with
      tConv := ⟨93751, 187500, 375000, 750000⟩,
      family := defaultFamily.set 1 (0x28, { standardFamily with convScale := ⟨4, 3⟩ }) }
    p.wellFormed = true ∧ tWaitAll p .r9 = 125002 ∧ tWaitDev p .r9 a1 = 125002 ∧ tWaitDev p .r9 l1 = 93751 := by
  decide +kernel

/-- The two policies; a valid address; a found one; the default table, which is well formed. -/
theorem witness_BlockingWaitLastsItsBound : Roomy State.reset ∧ State.reset.ctrl.waitEn = true ∧
    State.reset.status.parasite = true ∧
    ({ plain a1 0 with ctrl := ⟨true, false, true⟩ } : State).ctrl.pollEn = false ∧
    isValidAddr defaultParams (start a1 0).addrIn = true ∧
    (pcGetAddr 1 (withSearch [a1, l1] (start a1 1))).1 = some l1 ∧
    defaultParams.wellFormed = true ∧ (a1[0], standardFamily) ∈ defaultParams.family :=
  ⟨by unfold Roomy; decide, rfl, rfl, rfl, by decide +kernel, by decide +kernel, by decide +kernel, by decide⟩

theorem witness_DisabledWaitLeavesThePullup :
    ({ start a1 0 with ctrl := ⟨false, true, true⟩ } : State).ctrl.waitEn = false ∧
    isValidAddr defaultParams (start a1 0).addrIn = true ∧
    ({ State.reset with status.pullupOn := true } : State).status.pullupOn = true := by decide +kernel

/-- Exhausted and not, found and not. -/
theorem witness_AlarmSearchIsBounded :
    State.reset.status.asExhausted = false ∧ ({ State.reset with status.asExhausted := true } : State).status.asExhausted = true ∧
    (pcAlarmSearch { State.reset with env.presence := ⟨[false], 0⟩ }).1 = none ∧
    (pcAlarmSearch (withBits (slotAnswers [a1] a1) State.reset)).1 = some a1 ∧
    -1 ≤ State.reset.asJunction ∧ State.reset.asJunction ≤ 63 := by decide +kernel

/-- V44.1 on two devices: what the two scans and a third call answer; and a bus with nobody in alarm. -/
theorem witness_AlarmScanVisitsEachDeviceOnce :
    [a2, a1].Pairwise precedes ∧
    (withBits ([a2, a1].flatMap (slotAnswers [a2, a1])) State.reset).env.presence.script
      = List.replicate 2 true ++ List.replicate 6 true ∧
    (withBits ([a2, a1].flatMap (slotAnswers [a2, a1])) State.reset).env.bits.script
      = [a2, a1].flatMap (slotAnswers [a2, a1]) ++ [] ∧
    (alarmCalls 3 (actAsReset (withBits ([a2, a1].flatMap (slotAnswers [a2, a1])) State.reset))).1
      = [some a2, some a1, none] ∧
    (bitAnswer (withBits [true, true] State.reset) = true ∧
      bitAnswer (pcReadBit (withBits [true, true] State.reset)) = true) ∧
    presenceAnswer { State.reset with env.presence := ⟨[false], 0⟩ } = false := by
  refine ⟨List.pairwise_pair.mpr ⟨9, by decide, by decide, by decide, by decide⟩, by decide +kernel, by decide +kernel,
    by decide +kernel, by decide +kernel, by decide +kernel⟩

theorem witness_ProcessAlarmsResult :
    (pcDrain 3 2 false { withBits (slotAnswers [a1] a1) State.reset with
      asAddr := Vector.replicate 8 0x00, asJunction := -1, status.asExhausted := false }).map Prod.fst = some false ∧
    652 * 2 + 2 ≤ State.reset.quantum := by decide +kernel

end Sys2Proof.Tests
end

section
/-! # The state statements, part 1: what a line of a command may change

Each named update of the state gets one rule, `Quiet i s t`: what the command `i` may change between `s` and `t` at a
program point other than those that move `PHASE`. The rules compose, and every program point is a composition of them
(`runAct_quiet`, `runAct_effect`, `runAct_silent`). -/

namespace Sys2Proof.Machine

/-! ### The relations -/

/-- The parameters and the registers no command writes (R32 to R34, R41, R42, R45). -/
structure SameOperands (s t : State) : Prop where
  lastCmd : t.lastCmd = s.lastCmd
  ctrl : t.ctrl = s.ctrl
  arg : t.arg = s.arg
  handlerId : t.handlerId = s.handlerId
  addrIn : t.addrIn = s.addrIn
  addrCmp : t.addrCmp = s.addrCmp
  params : t.params = s.params

/-- The registers the command `c` is no writer of have the same value (R35 to R40, R46 to R49, R53, R54). -/
structure Untouched (c : Option Instr) (s t : State) : Prop where
  globalRes : c ∉ [some .init, some .setGres] → t.globalRes = s.globalRes
  parasite : c ≠ some .init → t.status.parasite = s.status.parasite
  deviceCount : c ∉ [some .init, some .getCount] → t.deviceCount = s.deviceCount
  addrOut : c ∉ [some .getAddr, some .alarmSearch, some .hasAlarmAny] → t.addrOut = s.addrOut
  spBuf : c ∉ [some .readSp, some .isConnSp] → t.spBuf = s.spBuf
  tempFp : c ∉ [some .calcTemp, some .getTemp, some .getTempIdx] → t.tempFp = s.tempFp
  resOut : c ≠ some .getRes → t.resOut = s.resOut
  alarmT : c ∉ [some .getTh, some .getTl] → t.alarmT = s.alarmT
  crcAcc : c ∉ [some .crcClr, some .crcPush] → t.crcAcc = s.crcAcc
  asAddr : c ∉ [some .asReset, some .alarmSearch, some .hasAlarmAny, some .processAlarms] → t.asAddr = s.asAddr
  asJunction :
    c ∉ [some .asReset, some .alarmSearch, some .hasAlarmAny, some .processAlarms] → t.asJunction = s.asJunction
  asExhausted : c ∉ [some .asReset, some .alarmSearch, some .hasAlarmAny, some .processAlarms] →
    t.status.asExhausted = s.status.asExhausted
  addrCrcErr :
    c ∉ [some .alarmSearch, some .hasAlarmAny, some .processAlarms] → t.status.addrCrcErr = s.status.addrCrcErr
  phase : c ∉ [some .reqTemps, some .reqTempAddr, some .reqTempIdx] → t.phase = s.phase

/-- The bounds of `Sound` on a junction and the local variables (R54, R146, R291). -/
structure InRange (j : Int) (l : Locals) : Prop where
  junction : -1 ≤ j ∧ j ≤ 63
  last : -1 ≤ l.last ∧ l.last ≤ 63
  bitIndex : l.i ≤ 63
  count : l.n ≤ 255

/-- What any line of the command `i` keeps. -/
structure Effect (i : Instr) (s t : State) : Prop extends SameOperands s t, Untouched (some i) s t where
  busy : t.status.busy = s.status.busy
  cmd : t.seq.cmd = s.seq.cmd
  own : s.seq.todo.all (lineOf i) = true → t.seq.todo.all (lineOf i) = true
  inRange : InRange s.asJunction s.seq.loc → InRange t.asJunction t.seq.loc

/-- `PHASE` has not moved, and the lines still to run take it where they did before. -/
structure Steady (s t : State) : Prop where
  phase_eq : t.phase = s.phase
  path : ∀ w p, phasePath w p t.seq.todo = phasePath w p s.seq.todo

/-- No event, and the same pull-up level. -/
structure Silent (s t : State) : Prop where
  trace : t.trace = s.trace
  pullupOn : t.status.pullupOn = s.status.pullupOn

/-- What a program point of the command `i` keeps, if it does not move `PHASE`. -/
structure Quiet (i : Instr) (s t : State) : Prop extends Effect i s t, Steady s t, Silent s t

/-! ### They compose -/

section
variable {i : Instr} {c : Option Instr} {s t u : State}

theorem SameOperands.refl (s : State) : SameOperands s s := ⟨rfl, rfl, rfl, rfl, rfl, rfl, rfl⟩

theorem SameOperands.trans (h : SameOperands s t) (k : SameOperands t u) : SameOperands s u where
  lastCmd := k.lastCmd.trans h.lastCmd
  ctrl := k.ctrl.trans h.ctrl
  arg := k.arg.trans h.arg
  handlerId := k.handlerId.trans h.handlerId
  addrIn := k.addrIn.trans h.addrIn
  addrCmp := k.addrCmp.trans h.addrCmp
  params := k.params.trans h.params

theorem Untouched.refl (c : Option Instr) (s : State) : Untouched c s s := by constructor <;> exact fun _ => rfl

theorem Untouched.trans (h : Untouched c s t) (k : Untouched c t u) : Untouched c s u where
  globalRes n := (k.globalRes n).trans (h.globalRes n)
  parasite n := (k.parasite n).trans (h.parasite n)
  deviceCount n := (k.deviceCount n).trans (h.deviceCount n)
  addrOut n := (k.addrOut n).trans (h.addrOut n)
  spBuf n := (k.spBuf n).trans (h.spBuf n)
  tempFp n := (k.tempFp n).trans (h.tempFp n)
  resOut n := (k.resOut n).trans (h.resOut n)
  alarmT n := (k.alarmT n).trans (h.alarmT n)
  crcAcc n := (k.crcAcc n).trans (h.crcAcc n)
  asAddr n := (k.asAddr n).trans (h.asAddr n)
  asJunction n := (k.asJunction n).trans (h.asJunction n)
  asExhausted n := (k.asExhausted n).trans (h.asExhausted n)
  addrCrcErr n := (k.addrCrcErr n).trans (h.addrCrcErr n)
  phase n := (k.phase n).trans (h.phase n)

theorem Effect.refl (i : Instr) (s : State) : Effect i s s :=
  { SameOperands.refl s, Untouched.refl (some i) s with busy := rfl, cmd := rfl, own := id, inRange := id }

theorem Effect.trans (h : Effect i s t) (k : Effect i t u) : Effect i s u :=
  { h.toSameOperands.trans k.toSameOperands, h.toUntouched.trans k.toUntouched with
    busy := k.busy.trans h.busy
    cmd := k.cmd.trans h.cmd
    own := k.own ∘ h.own
    inRange := k.inRange ∘ h.inRange }

theorem Steady.refl (s : State) : Steady s s := ⟨rfl, fun _ _ => rfl⟩

theorem Steady.trans (h : Steady s t) (k : Steady t u) : Steady s u :=
  ⟨k.phase_eq.trans h.phase_eq, fun w p => (k.path w p).trans (h.path w p)⟩

theorem Silent.refl (s : State) : Silent s s := ⟨rfl, rfl⟩

theorem Silent.trans (h : Silent s t) (k : Silent t u) : Silent s u :=
  ⟨k.trace.trans h.trace, k.pullupOn.trans h.pullupOn⟩

theorem Quiet.refl (i : Instr) (s : State) : Quiet i s s := { Effect.refl i s, Steady.refl s, Silent.refl s with }

theorem Quiet.trans (h : Quiet i s t) (k : Quiet i t u) : Quiet i s u :=
  { h.toEffect.trans k.toEffect, h.toSteady.trans k.toSteady, h.toSilent.trans k.toSilent with }

end

/-! ### One rule per update

A rule of a register asks that the command is a writer of it; at a concrete command `decide` sees that. The rule of
pushed lines asks that they are the command's own and leave `PHASE` where it is; at written-out lines `rfl` sees
both. -/

theorem all_append_of_all {i : Instr} {ls rest : List Line} (h : ls.all (lineOf i) = true)
    (k : rest.all (lineOf i) = true) : (ls ++ rest).all (lineOf i) = true := by rw [List.all_append, h, k]; rfl

theorem effect_push {i : Instr} (s : State) {ls : List Line} (own : ls.all (lineOf i) = true) :
    Effect i s (push ls s) :=
  { Effect.refl i s with own := all_append_of_all own }

theorem silent_push (s : State) (ls : List Line) : Silent s (push ls s) := ⟨rfl, rfl⟩

namespace Quiet

variable {i : Instr} {s t : State}

theorem setResult {v : Bool} (h : Quiet i s t) : Quiet i s (setResult v t) := h.trans { Quiet.refl i t with }

theorem readClock (h : Quiet i s t) : Quiet i s (readClock t) := h.trans { Quiet.refl i t with }

theorem push {ls : List Line} (h : Quiet i s t) (own : ls.all (lineOf i) = true := by rfl)
    (neutral : ∀ w p, phasePath w p ls = some p := by intros; rfl) : Quiet i s (push ls t) :=
  h.trans { effect_push t own, silent_push t ls with
    phase_eq := rfl
    path := fun w p => by rw [push_seq, phasePath_append, neutral]; rfl }

theorem setParasite {v : Bool} (h : Quiet i s t) (hi : some i = some .init := by decide) :
    Quiet i s (setParasite v t) :=
  h.trans { Quiet.refl i t with parasite := fun n => absurd hi n }

theorem setCrcErr {v : Bool} (h : Quiet i s t)
    (hi : some i ∈ [some .alarmSearch, some .hasAlarmAny, some .processAlarms] := by decide) :
    Quiet i s (setCrcErr v t) :=
  h.trans { Quiet.refl i t with addrCrcErr := fun n => absurd hi n }

theorem setExhausted {v : Bool} (h : Quiet i s t)
    (hi : some i ∈ [some .asReset, some .alarmSearch, some .hasAlarmAny, some .processAlarms] := by decide) :
    Quiet i s (setExhausted v t) :=
  h.trans { Quiet.refl i t with asExhausted := fun n => absurd hi n }

theorem writeTemp {v : BitVec 32} (hi : some i ∈ [some .calcTemp, some .getTemp, some .getTempIdx] := by decide) :
    Quiet i s (writeTemp v s) :=
  { Quiet.refl i s with tempFp := fun n => absurd hi n }

theorem writeLoc {l : Locals} (h : InRange s.asJunction s.seq.loc → InRange s.asJunction l) :
    Quiet i s { s with seq.loc := l } :=
  { Quiet.refl i s with inRange := h }

theorem writeGlobalRes {r : Resolution} (hi : some i ∈ [some .init, some .setGres] := by decide) :
    Quiet i s { s with globalRes := r } :=
  { Quiet.refl i s with globalRes := fun n => absurd hi n }

theorem writeDeviceCount {n : Byte} (hi : some i ∈ [some .init, some .getCount] := by decide) :
    Quiet i s { s with deviceCount := n } :=
  { Quiet.refl i s with deviceCount := fun n => absurd hi n }

/-- `ADDR_OUT` with the count of the unspecified addresses drawn (R156). -/
theorem writeAddrOut {a : Addr} {n : Nat}
    (hi : some i ∈ [some .getAddr, some .alarmSearch, some .hasAlarmAny] := by decide) :
    Quiet i s { s with addrOut := a, addrDraws := n } :=
  { Quiet.refl i s with addrOut := fun n => absurd hi n }

theorem writeSpBuf {sp : Pad} (hi : some i ∈ [some .readSp, some .isConnSp] := by decide) :
    Quiet i s { s with spBuf := sp } :=
  { Quiet.refl i s with spBuf := fun n => absurd hi n }

theorem writeResOut {v : Byte} (hi : some i = some .getRes := by decide) : Quiet i s { s with resOut := v } :=
  { Quiet.refl i s with resOut := fun n => absurd hi n }

theorem writeAlarmT {v : Byte} (hi : some i ∈ [some .getTh, some .getTl] := by decide) :
    Quiet i s { s with alarmT := v } :=
  { Quiet.refl i s with alarmT := fun n => absurd hi n }

theorem writeCrcAcc {v : Byte} (hi : some i ∈ [some .crcClr, some .crcPush] := by decide) :
    Quiet i s { s with crcAcc := v } :=
  { Quiet.refl i s with crcAcc := fun n => absurd hi n }

/-- The cursor's address and junction, with the local variables written beside them (R290, R291). -/
theorem writeCursor {a : Addr} {j : Int} {l : Locals} (h : InRange s.asJunction s.seq.loc → InRange j l)
    (hi : some i ∈ [some .asReset, some .alarmSearch, some .hasAlarmAny, some .processAlarms] := by decide) :
    Quiet i s { s with asAddr := a, asJunction := j, seq.loc := l } :=
  { Quiet.refl i s with
    asAddr := fun n => absurd hi n
    asJunction := fun n => absurd hi n
    inRange := h }

end Quiet
end Sys2Proof.Machine
end

section
/-! # The state statements, part 2: what each program point may change -/

namespace Sys2Proof.Machine

/-! ### The commands a program point may belong to -/

theorem lineOf_act {i : Instr} {x : Act} : lineOf i (.act x) = true ↔ i ∈ actOwners x := List.contains_iff_mem

/-- Lines that are the commands' own for each owner of the program point that puts them in front. -/
theorem own_of_owners {i : Instr} {x : Act} {ls : List Line} (h : i ∈ actOwners x)
    (hl : ∀ j ∈ actOwners x, ls.all (lineOf j) = true) : ls.all (lineOf i) = true := hl i h

/-- The program points that move `PHASE`, or put lines in front that do (R261, R267, R271, R272). -/
def movesPhase : Act → Bool
  | .setPhase _ | .convTail _ | .convWaiting _ | .reqAddr _ | .reqIdx => true
  | _ => false

/-! ### Control, CRC and registry -/

section
variable (s : State)

theorem initWrites_quiet : Quiet .init s (initWrites s) :=
  .setResult (.setParasite
    (.trans (t := { s with deviceCount := BitVec.ofNat 8 s.seq.loc.n }) .writeDeviceCount .writeGlobalRes))

theorem actInitFound_quiet : Quiet .init s (actInitFound s) := by
  unfold actInitFound
  split
  · exact initWrites_quiet s
  · split
    · exact .push (.refl _ s)
    · exact .push (.refl _ s)

theorem countUp_le (n : Nat) : countUp n ≤ 255 := Nat.min_le_right _ _

theorem actInitRes_quiet : Quiet .init s (actInitRes s) :=
  .writeLoc fun r => { r with count := countUp_le _ }

theorem actGetAddrFound_quiet {i : Instr} {k : Nat} (h : i ∈ actOwners (.getAddrFound k)) :
    Quiet i s (actGetAddrFound k s) := by
  have lookupFails : Quiet i s { s with seq.loc.found := none } := .writeLoc fun r => { r with }
  unfold actGetAddrFound
  split
  · exact Quiet.refl i s
  · split
    · exact Quiet.refl i s
    · exact lookupFails
  · split
    · exact .push (.refl i s) (own_of_owners h (by simp [actOwners, lineOf]))
    · exact lookupFails

theorem actGetAddrOut_quiet : Quiet .getAddr s (actGetAddrOut s) := by
  unfold actGetAddrOut
  split
  · exact .setResult .writeAddrOut
  · exact .setResult .writeAddrOut

theorem actCountFound_quiet : Quiet .getCount s (actCountFound s) := by
  have counted : Quiet .getCount s { s with seq.loc.n := countUp s.seq.loc.n } :=
    .writeLoc fun r => { r with count := countUp_le _ }
  unfold actCountFound
  split
  · exact .setResult .writeDeviceCount
  · split
    · exact .push counted
    · exact .push (.refl _ s)

/-! ### Scratchpad and resolution -/

theorem phasePath_writePadLines (a : Addr) (sp : Pad) (w : Bool) (p : Phase) :
    phasePath w p (writePadLines s a sp) = some p := by
  unfold writePadLines copyLines copyPowerLines
  split
  · split <;> rfl
  · rfl

theorem own_writePadLines (a : Addr) (sp : Pad) (i : Instr) : (writePadLines s a sp).all (lineOf i) = true := by
  unfold writePadLines copyLines copyPowerLines
  split
  · split <;> rfl
  · rfl

theorem actGetRes_quiet {i : Instr} {a : Addr} (h : i ∈ actOwners (.getRes a)) : Quiet i s (actGetRes a s) := by
  unfold actGetRes
  split
  · exact .writeLoc fun r => { r with }
  · exact .push (.refl i s) (own_of_owners h (by simp [actOwners, lineOf, readPadLines]))

theorem actSetRes_quiet {i : Instr} {a : Addr} {r : Resolution} (h : i ∈ actOwners (.setRes a r)) :
    Quiet i s (actSetRes a r s) := by
  unfold actSetRes
  split
  · exact .writeLoc fun r => { r with }
  · exact .push (.refl i s) (own_of_owners h (by simp [actOwners, lineOf, readPadLines]))

theorem actSetResPad_quiet {i : Instr} {a : Addr} {r : Resolution} (h : i ∈ actOwners (.setResPad a r)) :
    Quiet i s (actSetResPad a r s) := by
  unfold actSetResPad
  split
  · exact .push (.writeLoc fun r => { r with }) (own_of_owners h (by simp [actOwners, lineOf]))
  · exact .writeLoc fun r => { r with }

theorem actGresStart_quiet (r : Resolution) : Quiet .setGres s (actGresStart r s) :=
  .trans (t := { s with globalRes := r }) .writeGlobalRes (.writeLoc fun r => { r with })

theorem actGresFound_quiet (r : Resolution) : Quiet .setGres s (actGresFound r s) := by
  unfold actGresFound
  split
  · exact .setResult (.refl _ s)
  · split
    · exact .push (.refl _ s)
    · exact .push (.refl _ s)

theorem actGetThOut_quiet : Quiet .getTh s (actGetThOut s) := by
  unfold actGetThOut
  split
  · exact .setResult .writeAlarmT
  · exact .setResult .writeAlarmT

theorem actGetTlOut_quiet : Quiet .getTl s (actGetTlOut s) := by
  unfold actGetTlOut
  split
  · exact .setResult .writeAlarmT
  · exact .setResult .writeAlarmT

theorem actSetThPad_quiet (a : Addr) (v : Byte) : Quiet .setTh s (actSetThPad a v s) := by
  unfold actSetThPad
  split
  · exact .push (.writeLoc fun r => { r with })
  · exact .setResult (.refl _ s)

theorem actSetTlPad_quiet (a : Addr) (v : Byte) : Quiet .setTl s (actSetTlPad a v s) := by
  unfold actSetTlPad
  split
  · exact .push (.writeLoc fun r => { r with })
  · exact .setResult (.refl _ s)

theorem actTempIdx_quiet : Quiet .getTempIdx s (actTempIdx s) := by
  unfold actTempIdx
  split
  · exact .writeTemp
  · exact .push (.refl _ s)

/-! ### The conversion wait -/

theorem actWaitConv_quiet {i : Instr} {d : Nat} (h : i ∈ actOwners (.waitConv d)) : Quiet i s (actWaitConv d s) := by
  unfold actWaitConv
  split
  · exact .push (.readClock (.refl _ s)) (own_of_owners h (by simp [actOwners, lineOf]))
  · exact .push (.refl i s) (own_of_owners h (by simp [actOwners, lineOf]))

theorem actPollCheck_quiet {i : Instr} {t₀ d : Nat} (h : i ∈ actOwners (.pollCheck t₀ d)) :
    Quiet i s (actPollCheck t₀ d s) := by
  unfold actPollCheck
  split
  · exact Quiet.refl i s
  · split
    · exact .readClock (.refl _ s)
    · exact .push (.readClock (.refl _ s)) (own_of_owners h (by simp [actOwners, lineOf]))

theorem actWaitEnd_quiet {i : Instr} : Quiet i s (actWaitEnd s) := by
  unfold actWaitEnd
  split
  · exact .push (.refl _ s)
  · exact Quiet.refl i s

/-! ### The alarm search -/

theorem actAsReset_quiet {i : Instr} (h : i ∈ actOwners .asReset) : Quiet i s (actAsReset s) := by
  have writer : some i ∈ [some .asReset, some .alarmSearch, some .hasAlarmAny, some .processAlarms] := by
    simp only [actOwners, List.mem_cons, List.not_mem_nil, or_false] at h
    rcases h with rfl | rfl | rfl <;> decide
  exact .setExhausted (.writeCursor (fun r => { r with junction := by decide }) writer) writer

/-- The owners of the alarm search's program points write the cursor (R53, R54). -/
theorem writesCursor_of_alarmStart {i : Instr} (h : i ∈ actOwners .alarmStart) :
    some i ∈ [some Instr.asReset, some .alarmSearch, some .hasAlarmAny, some .processAlarms] :=
  List.mem_cons_of_mem _ (List.mem_map_of_mem (f := some) h)

theorem alarmNone_quiet {i : Instr} (h : i ∈ actOwners .alarmStart) : Quiet i s (alarmNone s) :=
  .setExhausted (.writeLoc fun r => { r with }) (writesCursor_of_alarmStart h)

theorem actAlarmStart_quiet {i : Instr} (h : i ∈ actOwners .alarmStart) : Quiet i s (actAlarmStart s) := by
  unfold actAlarmStart
  split
  · exact .writeLoc fun r => { r with }
  · exact .push (.refl i s) (own_of_owners h (by simp [actOwners, lineOf]))

theorem actAlarmPresence_quiet {i : Instr} (h : i ∈ actOwners .alarmPresence) : Quiet i s (actAlarmPresence s) := by
  unfold actAlarmPresence
  split
  · exact .push (.writeLoc fun r => { r with last := by simp, bitIndex := Nat.zero_le _ })
      (own_of_owners h (by simp [actOwners, lineOf, alarmSlots]))
  · exact alarmNone_quiet s h

/-- The junction and `last` a decision leaves come from the old ones and the bit index (R291). -/
theorem chooseBranch_inRange {i : Nat} {junction last : Int} (hi : i ≤ 63) (hj : -1 ≤ junction ∧ junction ≤ 63)
    (hl : -1 ≤ last ∧ last ≤ 63) (b nb prev done : Bool) :
    (-1 ≤ (chooseBranch i b nb junction prev last done).junction ∧
      (chooseBranch i b nb junction prev last done).junction ≤ 63) ∧
    (-1 ≤ (chooseBranch i b nb junction prev last done).last ∧
      (chooseBranch i b nb junction prev last done).last ≤ 63) := by
  have hbit : -1 ≤ (i : Int) ∧ (i : Int) ≤ 63 := by omega
  unfold chooseBranch
  split
  · split
    · exact ⟨hl, hl⟩
    · split
      · split
        · exact ⟨hj, hl⟩
        · exact ⟨hj, hbit⟩
      · exact ⟨hbit, hl⟩
  · exact ⟨hj, hl⟩

theorem actAlarmBit_quiet {i : Instr} (h : i ∈ actOwners .alarmBit) : Quiet i s (actAlarmBit s) := by
  unfold actAlarmBit
  split
  · exact alarmNone_quiet s h
  · refine .push (.writeCursor (fun r => ?_) (writesCursor_of_alarmStart h))
      (own_of_owners h (by simp [actOwners, lineOf]))
    obtain ⟨junction, last⟩ := chooseBranch_inRange r.bitIndex r.junction r.last s.seq.loc.b s.seq.loc.nb
      (addrBit s.asAddr s.seq.loc.i) s.seq.loc.done
    exact { r with junction := junction, last := last }

theorem actAlarmNext_quiet {i : Instr} (h : i ∈ actOwners .alarmNext) : Quiet i s (actAlarmNext s) := by
  unfold actAlarmNext
  split
  next more =>
    exact .push (.writeLoc fun r => { r with bitIndex := more })
      (own_of_owners h (by simp [actOwners, lineOf, alarmSlots]))
  next => exact .setExhausted (.writeLoc fun r => { r with }) (writesCursor_of_alarmStart h)

theorem alarmReport_quiet {i : Instr} (h : i ∈ [Instr.alarmSearch, .hasAlarmAny]) : Quiet i s (alarmReport s) := by
  have writesAddrOut : some i ∈ [some Instr.getAddr, some .alarmSearch, some .hasAlarmAny] :=
    List.mem_cons_of_mem _ (List.mem_map_of_mem (f := some) h)
  have writesCrcErr : some i ∈ [some Instr.alarmSearch, some .hasAlarmAny, some .processAlarms] :=
    List.mem_append_left [some Instr.processAlarms] (List.mem_map_of_mem (f := some) h)
  unfold alarmReport
  split
  · exact .setResult (.setCrcErr (.writeAddrOut writesAddrOut) writesCrcErr)
  · exact .setResult (.setCrcErr (.refl _ s) writesCrcErr)

theorem actProcFound_quiet (v : Byte) : Quiet .processAlarms s (actProcFound v s) := by
  unfold actProcFound
  split
  · exact .setResult (.setCrcErr (.refl _ s))
  · split
    · exact .push (.refl _ s)
    · exact .push (.writeLoc fun r => { r with })

end

/-! ### All program points -/

theorem runAct_quiet {x : Act} {i : Instr} (h : i ∈ actOwners x) (hx : movesPhase x = false) (s : State) :
    Quiet i s (runAct x s) := by
  cases x with
  | setPhase | convTail | convWaiting | reqAddr | reqIdx => cases hx
  | result | validAddr | addrEq | isConn | setResOut | readPowerOut | alarmOfOut => exact .setResult (.refl _ s)
  | initPower | getResPad | setResVerify | gresStored => exact .writeLoc fun r => { r with }
  | initFound => obtain rfl := List.mem_singleton.mp h; exact actInitFound_quiet s
  | initRes => obtain rfl := List.mem_singleton.mp h; exact actInitRes_quiet s
  | crcClear | crcPush => obtain rfl := List.mem_singleton.mp h; exact .setResult .writeCrcAcc
  | getAddrFound => exact actGetAddrFound_quiet s h
  | getAddrOut => obtain rfl := List.mem_singleton.mp h; exact actGetAddrOut_quiet s
  | countFound => obtain rfl := List.mem_singleton.mp h; exact actCountFound_quiet s
  | isConnSp | readSpOut => obtain rfl := List.mem_singleton.mp h; exact .setResult .writeSpBuf
  | writeSp => exact .push (.refl i s) (own_writePadLines s _ _ i) (phasePath_writePadLines s _ _)
  | getRes => exact actGetRes_quiet s h
  | getResOut => obtain rfl := List.mem_singleton.mp h; exact .setResult .writeResOut
  | setRes => exact actSetRes_quiet s h
  | setResPad => exact actSetResPad_quiet s h
  | gresStart => obtain rfl := List.mem_singleton.mp h; exact actGresStart_quiet s _
  | gresFound => obtain rfl := List.mem_singleton.mp h; exact actGresFound_quiet s _
  | getThOut => obtain rfl := List.mem_singleton.mp h; exact actGetThOut_quiet s
  | getTlOut => obtain rfl := List.mem_singleton.mp h; exact actGetTlOut_quiet s
  | setThPad => obtain rfl := List.mem_singleton.mp h; exact actSetThPad_quiet s _ _
  | setTlPad => obtain rfl := List.mem_singleton.mp h; exact actSetTlPad_quiet s _ _
  | tempOut => exact .writeTemp (List.mem_map_of_mem (f := some) h)
  | tempIdx => obtain rfl := List.mem_singleton.mp h; exact actTempIdx_quiet s
  | waitConv => exact actWaitConv_quiet s h
  | pollCheck => exact actPollCheck_quiet s h
  | waitEnd => exact actWaitEnd_quiet s
  | asReset => exact actAsReset_quiet s h
  | alarmStart => exact actAlarmStart_quiet s h
  | alarmPresence => exact actAlarmPresence_quiet s h
  | alarmBit => exact actAlarmBit_quiet s h
  | alarmNext => exact actAlarmNext_quiet s h
  | alarmOut | hasAnyOut =>
    obtain rfl := List.mem_singleton.mp h
    exact alarmReport_quiet s (by decide)
  | procFound => obtain rfl := List.mem_singleton.mp h; exact actProcFound_quiet s _

end Sys2Proof.Machine
end

section
/-! # The state statements, part 3: what a line and a step of the block keep -/

namespace Sys2Proof.Machine

/-! ### The program points that move `PHASE` -/

section
variable {i : Instr} (s : State)

theorem effect_setPhase {p q : Phase} (h : i ∈ actOwners (.setPhase q)) : Effect i s { s with phase := p } :=
  { Effect.refl i s with phase := fun n => absurd (List.mem_map_of_mem (f := some) h) n }

theorem own_convertOneLines (a : Addr) (h : i ∈ [Instr.reqTemps, .reqTempAddr, .reqTempIdx]) :
    (convertOneLines s a).all (lineOf i) = true :=
  own_of_owners (x := .setPhase .idle) h (by simp [actOwners, convertOneLines, lineOf])

theorem effect_actConvTail {d : Nat} (h : i ∈ actOwners (.convTail d)) : Effect i s (actConvTail d s) :=
  effect_push s (own_of_owners h (by split <;> simp [actOwners, lineOf]))

theorem effect_actConvWaiting {d : Nat} (h : i ∈ actOwners (.convWaiting d)) : Effect i s (actConvWaiting d s) := by
  unfold actConvWaiting
  split
  · exact (effect_setPhase s (q := .idle) h).trans (effect_push _ (own_of_owners h (by simp [actOwners, lineOf])))
  · exact (effect_setPhase s (q := .idle) h).trans (effect_push _ (own_of_owners h (by simp [actOwners, lineOf])))

theorem effect_actReqAddr (a : Addr) : Effect .reqTempAddr s (actReqAddr a s) := by
  unfold actReqAddr
  split
  · exact effect_push s (own_convertOneLines s a (by decide))
  · exact (Quiet.setResult (.refl _ s)).toEffect

theorem effect_actReqIdx : Effect .reqTempIdx s (actReqIdx s) := by
  unfold actReqIdx
  split
  · exact (Quiet.setResult (.refl _ s)).toEffect
  · exact effect_push s (own_convertOneLines s _ (by decide))

end

theorem runAct_effect {x : Act} {i : Instr} (h : i ∈ actOwners x) (s : State) : Effect i s (runAct x s) := by
  by_cases hx : movesPhase x = false
  · exact (runAct_quiet h hx s).toEffect
  · cases x with
    | setPhase => exact effect_setPhase s h
    | convTail => exact effect_actConvTail s h
    | convWaiting => exact effect_actConvWaiting s h
    | reqAddr => obtain rfl := List.mem_singleton.mp h; exact effect_actReqAddr s _
    | reqIdx => obtain rfl := List.mem_singleton.mp h; exact effect_actReqIdx s
    | _ => exact absurd rfl hx

theorem exists_owner (x : Act) : ∃ i, i ∈ actOwners x := by cases x <;> exact ⟨_, List.mem_cons_self⟩

/-- No program point is an event, and none moves the pull-up level (R95). -/
theorem runAct_silent (x : Act) (s : State) : Silent s (runAct x s) := by
  by_cases hx : movesPhase x = false
  · obtain ⟨i, h⟩ := exists_owner x
    exact (runAct_quiet h hx s).toSilent
  · cases x with
    | setPhase => exact ⟨rfl, rfl⟩
    | convTail => exact silent_push s _
    | convWaiting => simp only [runAct, actConvWaiting]; split <;> exact ⟨rfl, rfl⟩
    | reqAddr => simp only [runAct, actReqAddr]; split <;> exact ⟨rfl, rfl⟩
    | reqIdx => simp only [runAct, actReqIdx]; split <;> exact ⟨rfl, rfl⟩
    | _ => exact absurd rfl hx

/-! ### Any line -/

theorem runLine_effect {x : Line} {i : Instr} (h : lineOf i x = true) (s : State) : Effect i s (runLine x s) := by
  cases x with
  | act x => exact runAct_effect (lineOf_act.mp h) s
  | delay us => exact { effect_push (i := i) s (ls := [.waitUntil (s.clock + us)]) rfl with }
  | readBit slot => cases slot <;> exact { Effect.refl i s with inRange := fun r => { r with } }
  | reset | readByte | searchNext => exact { Effect.refl i s with inRange := fun r => { r with } }
  | select | writeByte | writeBit | searchReset | setPullup | waitUntil | callback => exact { Effect.refl i s with }

theorem exists_lineOf (x : Line) : ∃ i, lineOf i x = true := by
  cases x with
  | act x => exact (exists_owner x).imp fun _ => lineOf_act.mpr
  | _ => exact ⟨.nop, rfl⟩

/-! ### `PHASE` -/

theorem endsIdle_iff {s : State} : endsIdle s = true ↔ phasePath s.ctrl.waitEn s.phase s.seq.todo = some .idle :=
  beq_iff_eq

theorem phaseAfter_act_of_not_moves {x : Act} (hx : movesPhase x = false) (w : Bool) (p : Phase) :
    phaseAfter w p (.act x) = some p := by
  cases x with
  | setPhase | convTail | convWaiting | reqAddr | reqIdx => cases hx
  | _ => rfl

/-- From `p`, the state `t` is on its way back to Idle, and `PHASE` has moved along R261 if at all. -/
structure OnPath (p : Phase) (t : State) : Prop where
  endsIdle : phasePath t.ctrl.waitEn t.phase t.seq.todo = some .idle
  moved : t.phase = p ∨ phaseMove t.ctrl.waitEn p t.phase = true

theorem Steady.onPath {s t : State} (h : Steady s t) (hw : t.ctrl = s.ctrl)
    (hp : phasePath s.ctrl.waitEn s.phase s.seq.todo = some .idle) : OnPath s.phase t where
  endsIdle := by rw [hw, h.path, h.phase_eq, hp]
  moved := .inl h.phase_eq

theorem phasePath_append_eq {w : Bool} {p q r : Phase} {ls rest : List Line} (hls : phasePath w p ls = some q)
    (hrest : phasePath w q rest = some r) : phasePath w p (ls ++ rest) = some r := by
  rw [phasePath_append, hls]; exact hrest

theorem OnPath.push {s : State} {p q : Phase} {ls : List Line} (hp : s.phase = p)
    (hls : phasePath s.ctrl.waitEn p ls = some q) (hrest : phasePath s.ctrl.waitEn q s.seq.todo = some .idle) :
    OnPath p (push ls s) where
  endsIdle := phasePath_append_eq (by rw [← hls, ← hp]; rfl) hrest
  moved := .inl hp

theorem phasePath_convertOneLines (w : Bool) (s : State) (a : Addr) :
    phasePath w .idle (convertOneLines s a) = some .idle := rfl

theorem actConvTail_onPath {s : State} (d : Nat) (hp : s.phase = .requested)
    (hrest : phasePath s.ctrl.waitEn .idle s.seq.todo = some .idle) : OnPath s.phase (actConvTail d s) := by
  rw [hp]
  refine .push hp ?_ hrest
  split <;> rfl

theorem actConvWaiting_onPath {s : State} (d : Nat) (hp : s.phase = .requested)
    (hrest : phasePath s.ctrl.waitEn .idle s.seq.todo = some .idle) : OnPath s.phase (actConvWaiting d s) := by
  have requestedToWaiting : ∀ w, phaseMove w .requested .waiting = true := fun _ => rfl
  unfold actConvWaiting
  split
  next hw =>
    have path : phasePath s.ctrl.waitEn .waiting
        [.act (.waitConv d), .act (.setPhase .complete), .act (.setPhase .idle)] = some .idle := by rw [hw]; rfl
    exact ⟨phasePath_append_eq path hrest, .inr (by rw [hp]; exact requestedToWaiting _)⟩
  next hw =>
    have path : phasePath s.ctrl.waitEn .waiting [.act (.setPhase .idle)] = some .idle := by
      rw [Bool.eq_false_iff.mpr hw]; rfl
    exact ⟨phasePath_append_eq path hrest, .inr (by rw [hp]; exact requestedToWaiting _)⟩

theorem actReqAddr_onPath {s : State} (a : Addr) (hp : s.phase = .idle)
    (hrest : phasePath s.ctrl.waitEn .idle s.seq.todo = some .idle) : OnPath s.phase (actReqAddr a s) := by
  unfold actReqAddr
  rw [hp]
  split
  · exact .push hp (phasePath_convertOneLines _ s a) hrest
  · exact ⟨by rw [setResult_phase, hp]; exact hrest, .inl hp⟩

theorem actReqIdx_onPath {s : State} (hp : s.phase = .idle)
    (hrest : phasePath s.ctrl.waitEn .idle s.seq.todo = some .idle) : OnPath s.phase (actReqIdx s) := by
  unfold actReqIdx
  rw [hp]
  split
  · exact ⟨by rw [setResult_phase, hp]; exact hrest, .inl hp⟩
  · exact .push hp (phasePath_convertOneLines _ s _) hrest

theorem runAct_onPath {x : Act} {s : State}
    (hp : phasePath s.ctrl.waitEn s.phase (.act x :: s.seq.todo) = some .idle) : OnPath s.phase (runAct x s) := by
  obtain ⟨q, hq, hrest⟩ := Option.bind_eq_some_iff.mp hp
  by_cases hx : movesPhase x = false
  · obtain ⟨i, h⟩ := exists_owner x
    obtain rfl : s.phase = q := Option.some.inj ((phaseAfter_act_of_not_moves hx _ _).symm.trans hq)
    have quiet := runAct_quiet h hx s
    exact quiet.toSteady.onPath quiet.ctrl hrest
  · cases x with
    | setPhase r =>
      obtain ⟨move, ⟨⟩⟩ := Option.ite_none_right_eq_some.mp hq
      exact ⟨hrest, .inr move⟩
    | convTail =>
      obtain ⟨requested, ⟨⟩⟩ := Option.ite_none_right_eq_some.mp hq
      exact actConvTail_onPath _ requested hrest
    | convWaiting =>
      obtain ⟨requested, ⟨⟩⟩ := Option.ite_none_right_eq_some.mp hq
      exact actConvWaiting_onPath _ requested hrest
    | reqAddr =>
      obtain ⟨idle, ⟨⟩⟩ := Option.ite_none_right_eq_some.mp hq
      exact actReqAddr_onPath _ idle hrest
    | reqIdx =>
      obtain ⟨idle, ⟨⟩⟩ := Option.ite_none_right_eq_some.mp hq
      exact actReqIdx_onPath idle hrest
    | _ => exact absurd rfl hx

/-- Where the lines from `x` on lead back to Idle, so do those left after it (R261). -/
theorem runLine_onPath {x : Line} {s : State}
    (hp : phasePath s.ctrl.waitEn s.phase (x :: s.seq.todo) = some .idle) : OnPath s.phase (runLine x s) := by
  cases x with
  | act x => exact runAct_onPath hp
  | readBit slot => cases slot <;> exact ⟨hp, .inl rfl⟩
  | _ => exact ⟨hp, .inl rfl⟩

/-! ### The pull-up in the history -/

/-- The events between `s` and `t`: `PULLUP_ON` is the level they leave, and no other primitive among them is performed
while it is asserted (R55, R97). -/
def Recorded (s t : State) : Prop :=
  ∃ es, t.trace = s.trace ++ es ∧ releasedFirst s.status.pullupOn es = true ∧
    t.status.pullupOn = es.foldl pullupAfter s.status.pullupOn

theorem releasedFirst_append (on : Bool) (es fs : List Event) :
    releasedFirst on (es ++ fs) = (releasedFirst on es && releasedFirst (es.foldl pullupAfter on) fs) := by
  induction es generalizing on with
  | nil => rfl
  | cons e es ih => simp only [List.cons_append, releasedFirst, ih, List.foldl_cons, Bool.and_assoc]

theorem Recorded.trans {s t u : State} (h : Recorded s t) (k : Recorded t u) : Recorded s u := by
  obtain ⟨es, htrace, hreleased, hlevel⟩ := h
  obtain ⟨fs, ktrace, kreleased, klevel⟩ := k
  rw [hlevel] at kreleased klevel
  exact ⟨es ++ fs, by rw [ktrace, htrace, List.append_assoc], by rw [releasedFirst_append, hreleased, kreleased]; rfl,
    by rw [klevel, List.foldl_append]⟩

theorem Silent.recorded {s t : State} (h : Silent s t) : Recorded s t :=
  ⟨[], by rw [h.trace, List.append_nil], rfl, h.pullupOn⟩

theorem recorded_event {s t : State} (e : Event) (trace : t.trace = s.trace ++ [e])
    (released : (s.status.pullupOn && otherPrimitive e) = false)
    (level : t.status.pullupOn = pullupAfter s.status.pullupOn e) : Recorded s t :=
  ⟨[e], trace, by simp [releasedFirst, released], level⟩

theorem recorded_busSetPullup (on : Bool) (s : State) : Recorded s (busSetPullup on s) :=
  recorded_event (.setPullup on) rfl (Bool.and_false _) rfl

/-- A line for which no release is due (R97). -/
theorem runLine_recorded {x : Line} {s : State} (hr : ¬ releaseDue x s = true) : Recorded s (runLine x s) := by
  have level (h : busPrimitive x = true) : s.status.pullupOn = false := by simpa [releaseDue, h] using hr
  cases x with
  | act x => exact (runAct_silent x s).recorded
  | setPullup on => exact recorded_busSetPullup on s
  | waitUntil => exact Silent.recorded ⟨rfl, rfl⟩
  | delay us => exact recorded_event (.delay us) rfl (Bool.and_false _) rfl
  | callback h a => exact recorded_event (.callback h a) rfl (Bool.and_false _) rfl
  | reset | select | writeByte | readByte | readBit | writeBit | searchReset | searchNext =>
    exact recorded_event _ rfl (by rw [level rfl]; rfl) rfl

/-! ### One step of the block -/

/-- What a step of the block can be: the end of a command without lines, the release that is due, or a line. -/
theorem tick_cases {P : State → Prop} {s : State} (none : s.seq.todo = [] → P (finishCommand s))
    (release : P (busSetPullup false s))
    (line : ∀ x rest, s.seq.todo = x :: rest → ¬ releaseDue x s = true →
      P (settle (runLine x { s with seq.todo := rest }))) : P (tick s) := by
  cases h : s.seq.todo with
  | nil => rw [tick_none h]; exact none h
  | cons x rest =>
    by_cases hr : releaseDue x s = true
    · rw [tick_release h hr]; exact release
    · rw [tick_line h hr]; exact line x rest h hr

/-- What holds of a state and of the end of its command holds once the line is settled. -/
theorem settle_cases {P : State → Prop} {s : State} (more : s.seq.todo ≠ [] → P s)
    (last : s.seq.todo = [] → P (finishCommand s)) : P (settle s) := by
  unfold settle
  split
  next h => exact last (List.isEmpty_iff.mp h)
  next h => exact more (fun k => h (List.isEmpty_iff.mpr k))

theorem sameOperands_finish (s : State) : SameOperands s (finishCommand s) := { SameOperands.refl s with }

theorem tick_sameOperands (s : State) : SameOperands s (tick s) := by
  refine tick_cases (fun _ => sameOperands_finish s) { SameOperands.refl s with } fun x rest _ _ => ?_
  obtain ⟨i, h⟩ := exists_lineOf x
  have ran : SameOperands s (runLine x { s with seq.todo := rest }) :=
    { (runLine_effect h { s with seq.todo := rest }).toSameOperands with }
  exact settle_cases (fun _ => ran) fun _ => ran.trans (sameOperands_finish _)

theorem tick_recorded (s : State) : Recorded s (tick s) := by
  have finished (t : State) : Recorded t (finishCommand t) := Silent.recorded ⟨rfl, rfl⟩
  refine tick_cases (fun _ => finished s) (recorded_busSetPullup false s) fun x rest _ hr => ?_
  have ran : Recorded s (runLine x { s with seq.todo := rest }) :=
    runLine_recorded (s := { s with seq.todo := rest }) hr
  exact settle_cases (fun _ => ran) fun _ => ran.trans (finished _)

/-- The sticky bits are outside a command's reach (R86, R337). -/
theorem tick_sticky (s : State) :
    (tick s).status.illegal = s.status.illegal ∧ (tick s).status.overrun = s.status.overrun := by
  have outside := tick_outside s.status.illegal s.status.overrun s.env.turns s.reads s.quantum s
  rw [show withOutside s.status.illegal s.status.overrun s.env.turns s.reads s.quantum s = s from rfl] at outside
  exact ⟨by rw [outside]; rfl, by rw [outside]; rfl⟩

/-! ### Many steps of the block -/

/-- What every step of a busy block keeps, a run of the block keeps. -/
theorem runBlock_keeps {P : State → Prop} (keep : ∀ s, s.status.busy = true → P s → P (tick s)) (n : Nat)
    (s : State) (h : P s) : P (runBlock n s) := by
  induction n generalizing s with
  | zero => exact h
  | succ n ih =>
    by_cases hb : s.status.busy = true
    · rw [runBlock_succ_busy _ _ hb]; exact ih _ (keep s hb h)
    · rw [runBlock_idle _ s (by simpa using hb)]; exact h

theorem runBlock_sameOperands (n : Nat) (s : State) : SameOperands s (runBlock n s) :=
  runBlock_keeps (P := SameOperands s) (fun t _ h => h.trans (tick_sameOperands t)) n s (.refl s)

theorem runBlock_recorded (n : Nat) (s : State) : Recorded s (runBlock n s) :=
  runBlock_keeps (P := Recorded s) (fun t _ h => h.trans (tick_recorded t)) n s (Silent.refl s).recorded

theorem runBlock_sticky (n : Nat) (s : State) :
    (runBlock n s).status.illegal = s.status.illegal ∧ (runBlock n s).status.overrun = s.status.overrun :=
  runBlock_keeps (P := fun t => t.status.illegal = s.status.illegal ∧ t.status.overrun = s.status.overrun)
    (fun t _ h => ⟨(tick_sticky t).1.trans h.1, (tick_sticky t).2.trans h.2⟩) n s ⟨rfl, rfl⟩

end Sys2Proof.Machine
end

section
/-! # The state statements, part 4: what a step of the model can be -/

namespace Sys2Proof.Machine

/-! ### The start of a command -/

/-- What the lines and the local variables a command starts with meet. -/
structure GoodStart (i : Instr) (l : Locals) (code : List Line) : Prop where
  nonempty : code ≠ []
  own : code.all (lineOf i) = true
  path : ∀ w, phasePath w .idle code = some .idle
  inRange : ∀ j : Int, -1 ≤ j ∧ j ≤ 63 → InRange j l

theorem locals_start_inRange (j : Int) (hj : -1 ≤ j ∧ j ≤ 63) : InRange j Locals.start :=
  ⟨hj, by decide, by decide, by decide⟩

theorem localsWithPad_inRange (s : State) (j : Int) (hj : -1 ≤ j ∧ j ≤ 63) : InRange j (localsWithPad s) :=
  { locals_start_inRange j hj with }

/-- Every command has a meaning: it begins, and the block runs (R111). -/
theorem exec_begins (i : Instr) (s : State) :
    ∃ l code, exec i s = .next (runBlock s.quantum (beginCommand i l code s)) ∧ GoodStart i l code := by
  cases i with
  | writeSp | calcTemp =>
    exact ⟨_, _, rfl, List.cons_ne_nil _ _, rfl, fun _ => rfl, localsWithPad_inRange s⟩
  | _ => exact ⟨_, _, rfl, List.cons_ne_nil _ _, rfl, fun _ => rfl, locals_start_inRange⟩

/-! ### The turns -/

/-- The state once the step has taken its turn off the list (log 3). -/
def dropTurn (s : State) : State := { s with env.turns := s.env.turns.tail }

/-- What a host access does in a step that accepts no command, by kind of access (R81 to R87, R331, R332, R337). -/
inductive HostTurn (s : State) : State → Prop
  | read (off : BitVec 6) (ts : List Turn) (turns : s.env.turns = .read off :: ts) :
    HostTurn s (hostRead off (dropTurn s))
  | illegal (op : Byte) (ts : List Turn) (turns : s.env.turns = .write cmdOffset op :: ts)
      (idle : s.status.busy = false) : HostTurn s (illegalCommand { dropTurn s with lastCmd := op })
  | overruns (off : BitVec 6) (v : Byte) (ts : List Turn) (turns : s.env.turns = .write off v :: ts)
      (busy : s.status.busy = true) : HostTurn s (overrun (dropTurn s))
  | acknowledges (v : Byte) (ts : List Turn) (turns : s.env.turns = .write 0x01 v :: ts) :
    HostTurn s (acknowledge v (dropTurn s))
  | stores (off : BitVec 6) (v : Byte) (ts : List Turn) (turns : s.env.turns = .write off v :: ts)
      (notCmd : off ≠ cmdOffset) (idle : s.status.busy = false) (ctrl : Ctrl) (arg handlerId : Byte)
      (addrIn addrCmp : Addr) (spBuf : Pad) (pad : spBuf ≠ s.spBuf → 0x28 ≤ off.toNat ∧ off.toNat ≤ 0x30) :
    HostTurn s { dropTurn s with
      ctrl := ctrl, arg := arg, handlerId := handlerId, addrIn := addrIn, addrCmp := addrCmp, spBuf := spBuf }
  | ignored (off : BitVec 6) (v : Byte) (ts : List Turn) (turns : s.env.turns = .write off v :: ts)
      (notCmd : off ≠ cmdOffset) : HostTurn s (dropTurn s)

/-- What a step can be: the block runs, reset, an accepted command, or another host access. -/
inductive StepCase (s : State) : State → Prop
  | runs (turns : s.env.turns = [] ∨ ∃ ts, s.env.turns = .pass :: ts) : StepCase s (advance (dropTurn s))
  | reset (ts : List Turn) (turns : s.env.turns = .reset :: ts) : StepCase s (resetBlock (dropTurn s))
  | command (op : Byte) (ts : List Turn) (turns : s.env.turns = .write cmdOffset op :: ts)
      (idle : s.status.busy = false) (i : Instr) (decoded : decode op = .ok i) (l : Locals) (code : List Line)
      (good : GoodStart i l code) :
    StepCase s (runBlock s.quantum (beginCommand i l code { dropTurn s with lastCmd := op }))
  | host (t : State) (turn : HostTurn s t) : StepCase s t

theorem hostReg_cmd : ∀ off : BitVec 6, hostReg off = .cmd → off = cmdOffset := by decide
theorem hostReg_status : ∀ off : BitVec 6, hostReg off = .status → off = 0x01 := by decide

/-- Whether a register of the map is a byte of `SP_BUF`. -/
def isPadByte : HostReg → Bool
  | .spBuf _ => true
  | _ => false

theorem hostReg_isPadByte :
    ∀ off : BitVec 6, isPadByte (hostReg off) = true → 0x28 ≤ off.toNat ∧ off.toNat ≤ 0x30 := by decide

/-- The case of the step in which the host writes `CMD` on an idle block (R111). -/
theorem acceptCommand_case {s : State} {op : Byte} {ts : List Turn} (turns : s.env.turns = .write cmdOffset op :: ts)
    (idle : s.status.busy = false) : ∃ t, acceptCommand op (dropTurn s) = .next t ∧ StepCase s t := by
  unfold acceptCommand
  split
  next i decoded =>
    obtain ⟨l, code, begins, good⟩ := exec_begins i { dropTurn s with lastCmd := op }
    exact ⟨_, begins, .command op ts turns idle i decoded l code good⟩
  next => exact ⟨_, rfl, .host _ (.illegal op ts turns idle)⟩

/-- The case of the step in which the host writes an operand or control register (R86). -/
theorem storeOrOverrun_case {s stored : State} {off : BitVec 6} {v : Byte} {ts : List Turn}
    (turns : s.env.turns = .write off v :: ts) (idleTurn : s.status.busy = false → HostTurn s stored) :
    ∃ t, storeOrOverrun stored (dropTurn s) = .next t ∧ StepCase s t := by
  unfold storeOrOverrun
  split
  next busy => exact ⟨_, rfl, .host _ (.overruns off v ts turns busy)⟩
  next idle => exact ⟨_, rfl, .host _ (idleTurn (Bool.eq_false_iff.mpr idle))⟩

theorem hostWrite_case {s : State} {off : BitVec 6} {v : Byte} {ts : List Turn}
    (turns : s.env.turns = .write off v :: ts) : ∃ t, hostWrite off v (dropTurn s) = .next t ∧ StepCase s t := by
  by_cases hc : off = cmdOffset
  · subst hc
    show ∃ t, requestCommand v (dropTurn s) = .next t ∧ StepCase s t
    unfold requestCommand
    split
    next busy => exact ⟨_, rfl, .host _ (.overruns _ v ts turns busy)⟩
    next idle => exact acceptCommand_case turns (Bool.eq_false_iff.mpr idle)
  · have store := HostTurn.stores off v ts turns hc
    unfold hostWrite
    cases h : hostReg off with
    | cmd => exact absurd (hostReg_cmd off h) hc
    | status => obtain rfl := hostReg_status off h; exact ⟨_, rfl, .host _ (.acknowledges v ts turns)⟩
    | ctrl | arg | handlerId | addrIn | addrCmp =>
      exact storeOrOverrun_case turns fun idle => store idle _ _ _ _ _ _ fun n => absurd rfl n
    | spBuf =>
      have inPad := hostReg_isPadByte off (by rw [h]; rfl)
      exact storeOrOverrun_case turns fun idle => store idle _ _ _ _ _ _ fun _ => inPad
    | globalRes | deviceCount | resOut | alarmT | crcAcc | phase | tempFp | addrOut | reserved =>
      exact ⟨_, rfl, .host _ (.ignored off v ts turns hc)⟩

/-- Every step answers a next state, by one of the cases. -/
theorem step_next (s : State) : ∃ t, step s = .next t ∧ StepCase s t := by
  unfold step nextTurn
  split
  next turns =>
    have same : dropTurn s = s := by
      show { s with env.turns := s.env.turns.tail } = s
      rw [turns, List.tail_nil, ← turns]
    have runs : StepCase s (advance (dropTurn s)) := .runs (.inl turns)
    exact ⟨advance s, rfl, by rwa [same] at runs⟩
  next x ts turns =>
    have dropped : { s with env.turns := ts } = dropTurn s := by unfold dropTurn; rw [turns, List.tail_cons]
    rw [dropped]
    cases x with
    | pass => exact ⟨_, rfl, .runs (.inr ⟨ts, turns⟩)⟩
    | reset => exact ⟨_, rfl, .reset ts turns⟩
    | read off => exact ⟨_, rfl, .host _ (.read off ts turns)⟩
    | write off v => exact hostWrite_case turns

theorem step_cases {s t : State} (h : step s = .next t) : StepCase s t := by
  obtain ⟨u, hu, c⟩ := step_next s
  obtain rfl : u = t := Host.Outcome.next.inj (hu.symm.trans h)
  exact c

end Sys2Proof.Machine
end

section
/-! # The state statements, part 5: sound states, and the statements -/

namespace Sys2Proof.Machine

/-! ### Host accesses -/

/-- What a host access that starts no command keeps: all a command depends on while one is in progress, the history, and
every register a command writes but `SP_BUF`. -/
structure HostAccess (s t : State) : Prop extends Silent s t where
  busy : t.status.busy = s.status.busy
  seq : t.seq = s.seq
  phase : t.phase = s.phase
  junction : t.asJunction = s.asJunction
  ctrl : s.status.busy = true → t.ctrl = s.ctrl
  params : t.params = s.params
  registers : ∀ c, Untouched c { s with spBuf := t.spBuf } t

theorem HostAccess.refl (s : State) : HostAccess s s :=
  { Silent.refl s with
    busy := rfl, seq := rfl, phase := rfl, junction := rfl, ctrl := fun _ => rfl, params := rfl
    registers := fun c => .refl c s }

/-- The state in which a command the host requests begins. -/
theorem hostAccess_request (s : State) (op : Byte) : HostAccess s { dropTurn s with lastCmd := op } :=
  { HostAccess.refl s with registers := fun c => { Untouched.refl c s with } }

theorem hostAccess_dropTurn (s : State) : HostAccess s (dropTurn s) :=
  { HostAccess.refl s with registers := fun c => { Untouched.refl c s with } }

theorem hostRead_eq (off : BitVec 6) (s : State) : ∃ rd, hostRead off s = { s with reads := rd } := by
  unfold hostRead
  split
  · exact ⟨_, rfl⟩
  · exact ⟨_, rfl⟩

theorem HostTurn.access {s t : State} (h : HostTurn s t) : HostAccess s t := by
  cases h with
  | read off ts turns =>
    obtain ⟨rd, e⟩ := hostRead_eq off (dropTurn s)
    rw [e]
    exact { HostAccess.refl s with registers := fun c => { Untouched.refl c s with } }
  | stores off v ts turns notCmd idle =>
    exact { HostAccess.refl s with
      ctrl := fun busy => absurd (idle.symm.trans busy) Bool.false_ne_true
      registers := fun c => { Untouched.refl c s with spBuf := fun _ => rfl } }
  | illegal | overruns | acknowledges | ignored =>
    exact { HostAccess.refl s with registers := fun c => { Untouched.refl c s with } }

/-! ### Sound states (R43, R49, R54, R56) -/

theorem Sound.idle_todo {s : State} (h : Sound s) (idle : s.status.busy = false) : s.seq.todo = [] := by
  rw [h.idle_micro idle]; rfl

theorem Sound.idle_phase {s : State} (h : Sound s) (idle : s.status.busy = false) : s.phase = .idle := by
  have path := endsIdle_iff.mp h.phase
  rw [h.idle_todo idle] at path
  exact Option.some.inj path

theorem Sound.inRange {s : State} (h : Sound s) : InRange s.asJunction s.seq.loc :=
  ⟨h.junction, h.last, h.bitIndex, h.count⟩

/-- An idle block is sound with `PHASE` Idle, no micro-state and the junction in range. -/
theorem sound_idle {s : State} (busy : s.status.busy = false) (seq : s.seq = Micro.none) (phase : s.phase = .idle)
    (junction : -1 ≤ s.asJunction ∧ s.asJunction ≤ 63) : Sound s where
  busy_iff := by rw [busy, seq]; decide
  idle_micro := fun _ => seq
  micro := by rw [seq]; rfl
  phase := endsIdle_iff.mpr (by rw [seq, phase]; rfl)
  junction := junction
  last := by rw [seq]; decide
  bitIndex := by rw [seq]; decide
  count := by rw [seq]; decide

/-- Settles O12: the block is idle after reset. -/
theorem resetStateIsSound : Obligations.ResetStateIsSound := sound_idle rfl rfl rfl (by decide)

/-- A busy state in the middle of the command `i`: sound, but for lines being left. -/
structure Midway (i : Instr) (s : State) : Prop where
  busy : s.status.busy = true
  cmd : s.seq.cmd = some i
  own : s.seq.todo.all (lineOf i) = true
  path : phasePath s.ctrl.waitEn s.phase s.seq.todo = some .idle
  inRange : InRange s.asJunction s.seq.loc

theorem Sound.midway {s : State} (h : Sound s) (busy : s.status.busy = true) : ∃ i, Midway i s := by
  have micro := h.micro
  unfold microOk at micro
  split at micro
  next i cmd => exact ⟨i, busy, cmd, micro, endsIdle_iff.mp h.phase, h.inRange⟩
  next => exact absurd (List.isEmpty_iff.mp micro) (h.busy_iff.mp busy)

/-- In the middle of a command, a state with lines left is sound. -/
theorem Midway.sound {i : Instr} {s : State} (h : Midway i s) (more : s.seq.todo ≠ []) : Sound s where
  busy_iff := iff_of_true h.busy more
  idle_micro idle := absurd (idle.symm.trans h.busy) Bool.false_ne_true
  micro := by unfold microOk; rw [h.cmd]; exact h.own
  phase := endsIdle_iff.mpr h.path
  junction := h.inRange.junction
  last := h.inRange.last
  bitIndex := h.inRange.bitIndex
  count := h.inRange.count

/-- The last line done, the command has taken `PHASE` back to Idle. -/
theorem Midway.sound_finish {i : Instr} {s : State} (h : Midway i s) (last : s.seq.todo = []) :
    Sound (finishCommand s) := by
  have path := h.path
  rw [last] at path
  exact sound_idle rfl rfl (Option.some.inj path) h.inRange.junction

theorem Midway.owns_head {i : Instr} {s : State} {x : Line} {rest : List Line} (h : Midway i s)
    (todo : s.seq.todo = x :: rest) : lineOf i x = true ∧ rest.all (lineOf i) = true := by
  simpa [todo] using h.own

theorem Midway.runLine {i : Instr} {s : State} {x : Line} {rest : List Line} (h : Midway i s)
    (todo : s.seq.todo = x :: rest) : Midway i (runLine x { s with seq.todo := rest }) := by
  obtain ⟨own, ownRest⟩ := h.owns_head todo
  have effect := runLine_effect own { s with seq.todo := rest }
  exact {
    busy := effect.busy.trans h.busy
    cmd := effect.cmd.trans h.cmd
    own := effect.own ownRest
    path := (runLine_onPath (s := { s with seq.todo := rest }) (todo ▸ h.path)).endsIdle
    inRange := effect.inRange h.inRange }

theorem Midway.busySetPullup {i : Instr} {s : State} (h : Midway i s) (on : Bool) : Midway i (busSetPullup on s) :=
  { h with }

/-! ### A command at work -/

/-- From `s` on, the command `i` has been at work: the state is sound, no other command is in progress, and only the
registers `i` writes have changed. -/
structure Working (i : Instr) (s t : State) : Prop where
  sound : Sound t
  cmd : t.status.busy = true → t.seq.cmd = some i
  registers : Untouched (some i) s t

theorem Midway.working {i : Instr} {s t : State} (h : Midway i t) (more : t.seq.todo ≠ [])
    (registers : Untouched (some i) s t) : Working i s t :=
  ⟨h.sound more, fun _ => h.cmd, registers⟩

theorem Midway.working_settle {i : Instr} {s t : State} (h : Midway i t) (registers : Untouched (some i) s t) :
    Working i s (settle t) :=
  settle_cases (fun more => h.working more registers) fun last =>
    ⟨h.sound_finish last, fun busy => absurd busy Bool.false_ne_true, { registers with }⟩

theorem Working.tick {i : Instr} {s t : State} (busy : t.status.busy = true) (h : Working i s t) :
    Working i s (tick t) := by
  obtain ⟨j, mid⟩ := h.sound.midway busy
  obtain rfl : j = i := Option.some.inj (mid.cmd.symm.trans (h.cmd busy))
  have more := h.sound.busy_iff.mp busy
  refine tick_cases (fun none => absurd none more) ?_ fun x rest todo _ => ?_
  · exact (mid.busySetPullup false).working more { h.registers with }
  · have ran := (runLine_effect (mid.owns_head todo).1 { t with seq.todo := rest }).toUntouched
    exact (mid.runLine todo).working_settle (h.registers.trans { ran with })

theorem runBlock_working {i : Instr} {s : State} (h : Working i s s) (n : Nat) : Working i s (runBlock n s) :=
  runBlock_keeps (P := Working i s) (fun _ busy => Working.tick busy) n s h

/-- A command begins in a sound idle state. -/
theorem beginCommand_working {i : Instr} {l : Locals} {code : List Line} {s : State} (h : Sound s)
    (idle : s.status.busy = false) (good : GoodStart i l code) :
    Working i (beginCommand i l code s) (beginCommand i l code s) := by
  have mid : Midway i (beginCommand i l code s) := {
    busy := rfl
    cmd := rfl
    own := good.own
    path := by rw [begin_phase, h.idle_phase idle]; exact good.path _
    inRange := good.inRange _ h.junction }
  exact mid.working good.nonempty (.refl _ _)

theorem HostAccess.sound {s t : State} (h : HostAccess s t) (hs : Sound s) : Sound t := by
  cases busy : s.status.busy with
  | true =>
    obtain ⟨i, mid⟩ := hs.midway busy
    have midT : Midway i t := {
      busy := h.busy.trans busy
      cmd := by rw [h.seq]; exact mid.cmd
      own := by rw [h.seq]; exact mid.own
      path := by rw [h.seq, h.phase, h.ctrl busy]; exact mid.path
      inRange := by rw [h.seq, h.junction]; exact mid.inRange }
    exact midT.sound (by rw [h.seq]; exact hs.busy_iff.mp busy)
  | false =>
    exact sound_idle (h.busy.trans busy) (h.seq.trans (hs.idle_micro busy)) (h.phase.trans (hs.idle_phase busy))
      (by rw [h.junction]; exact hs.junction)

/-! ### One step -/

/-- The block runs from a sound state: the command in progress, if any, is at work. -/
theorem advance_working {s : State} (h : Sound s) :
    Sound (advance s) ∧ Untouched s.seq.cmd s (advance s) := by
  cases busy : s.status.busy with
  | true =>
    obtain ⟨i, mid⟩ := h.midway busy
    have run := runBlock_working (mid.working (h.busy_iff.mp busy) (.refl _ s)) (s.quantum + 1)
    exact ⟨run.sound, mid.cmd ▸ run.registers⟩
  | false =>
    have still : advance s = s := runBlock_idle _ s busy
    exact ⟨still.symm ▸ h, still.symm ▸ .refl _ s⟩

theorem commandAtWork_runs {s : State} (turns : s.env.turns = [] ∨ ∃ ts, s.env.turns = .pass :: ts) :
    commandAtWork s = s.seq.cmd := by
  unfold commandAtWork
  obtain turns | ⟨ts, turns⟩ := turns
  · rw [turns]
  · rw [turns]

theorem commandAtWork_command {s : State} {op : Byte} {ts : List Turn} {i : Instr}
    (turns : s.env.turns = .write cmdOffset op :: ts) (idle : s.status.busy = false) (decoded : decode op = .ok i) :
    commandAtWork s = some i := by
  unfold commandAtWork
  rw [turns]
  simp only [idle, decoded, and_self, if_true]

theorem StepCase.sound {s t : State} (c : StepCase s t) (h : Sound s) : Sound t := by
  cases c with
  | runs => exact (advance_working ((hostAccess_dropTurn s).sound h)).1
  | reset => exact sound_idle rfl rfl rfl resetStateIsSound.junction
  | command op ts turns idle i decoded l code good =>
    exact (runBlock_working (beginCommand_working ((hostAccess_request s op).sound h) idle good) _).sound
  | host _ turn => exact turn.access.sound h

/-- Settles O13, by the cases of a step: a run of the block keeps soundness line by line (`Working.tick`). -/
theorem everyStepKeepsSoundStates : Obligations.EveryStepKeepsSoundStates := by
  intro s h
  obtain ⟨t, next, c⟩ := step_next s
  exact ⟨t, next, c.sound h⟩

/-- In a step that is not a reset, only registers the command at work writes change, or the host has its turn. -/
theorem StepCase.untouched {s t : State} (c : StepCase s t) (h : Sound s)
    (noReset : ∀ ts, s.env.turns ≠ .reset :: ts) : Untouched (commandAtWork s) s t ∨ HostTurn s t := by
  cases c with
  | runs turns =>
    rw [commandAtWork_runs turns]
    exact .inl { (advance_working ((hostAccess_dropTurn s).sound h)).2 with }
  | reset ts turns => exact absurd turns (noReset ts)
  | command op ts turns idle i decoded l code good =>
    rw [commandAtWork_command turns idle decoded]
    have begun := beginCommand_working ((hostAccess_request s op).sound h) idle good
    exact .inl { (runBlock_working begun s.quantum).registers with }
  | host _ turn => exact .inr turn

/-- `SP_BUF` aside, in a step that is not a reset only registers the command at work writes change. -/
theorem step_untouched {s t : State} (h : Sound s) (next : step s = .next t)
    (noReset : ∀ ts, s.env.turns ≠ .reset :: ts) : Untouched (commandAtWork s) { s with spBuf := t.spBuf } t := by
  obtain registers | turn := (step_cases next).untouched h noReset
  · exact { registers with spBuf := fun _ => rfl }
  · exact turn.access.registers _

/-- The host changes `SP_BUF` only by writing one of its bytes to an idle block (R36, R83, R86). -/
theorem HostTurn.spBuf_changed {s t : State} (h : HostTurn s t) (changed : t.spBuf ≠ s.spBuf) :
    s.status.busy = false ∧
      ∃ off v ts, s.env.turns = .write off v :: ts ∧ 0x28 ≤ off.toNat ∧ off.toNat ≤ 0x30 := by
  cases h with
  | stores off v ts turns notCmd idle _ _ _ _ _ _ pad => exact ⟨idle, off, v, ts, turns, pad changed⟩
  | read off ts turns =>
    obtain ⟨rd, e⟩ := hostRead_eq off (dropTurn s)
    exact absurd (by rw [e]; rfl) changed
  | illegal | overruns | acknowledges | ignored => exact absurd rfl changed

theorem step_spBuf {s t : State} (h : Sound s) (next : step s = .next t)
    (noReset : ∀ ts, s.env.turns ≠ .reset :: ts) (changed : t.spBuf ≠ s.spBuf) :
    commandAtWork s ∈ [some .readSp, some .isConnSp] ∨ (s.status.busy = false ∧
      ∃ off v ts, s.env.turns = .write off v :: ts ∧ 0x28 ≤ off.toNat ∧ off.toNat ≤ 0x30) := by
  obtain registers | turn := (step_cases next).untouched h noReset
  · exact .inl (not_imp_comm.mp registers.spBuf changed)
  · exact .inr (turn.spBuf_changed changed)

/-- Settles O19, by the writers of each register along a step (`step_untouched`). -/
theorem onlyRefreshersWriteTheSummaries : Obligations.OnlyRefreshersWriteTheSummaries := by
  intro s t h next noReset
  have registers := step_untouched h next noReset
  exact ⟨not_imp_comm.mp registers.globalRes, not_imp_comm.mp registers.parasite,
    not_imp_comm.mp registers.deviceCount⟩

/-- Settles O20, by the writers of each register along a step, and the host's idle writes of `SP_BUF`. -/
theorem onlyTheirCommandsWriteResults : Obligations.OnlyTheirCommandsWriteResults := by
  intro s t h next noReset
  have registers := step_untouched h next noReset
  exact ⟨not_imp_comm.mp registers.addrOut, step_spBuf h next noReset, not_imp_comm.mp registers.tempFp,
    not_imp_comm.mp registers.resOut, not_imp_comm.mp registers.alarmT, not_imp_comm.mp registers.crcAcc⟩

/-! ### `PHASE` in one step of the block (R261) -/

theorem settle_phase (s : State) : (settle s).phase = s.phase :=
  settle_cases (P := fun t => t.phase = s.phase) (fun _ => rfl) fun _ => rfl

theorem tick_phase {s : State} (h : Sound s) :
    (tick s).phase = s.phase ∨ phaseMove s.ctrl.waitEn s.phase (tick s).phase = true := by
  refine tick_cases (P := fun t => t.phase = s.phase ∨ phaseMove s.ctrl.waitEn s.phase t.phase = true)
    (fun _ => .inl rfl) (.inl rfl) fun x rest todo _ => ?_
  rw [settle_phase]
  have path := endsIdle_iff.mp h.phase
  rw [todo] at path
  obtain ⟨i, own⟩ := exists_lineOf x
  have effect := runLine_effect own { s with seq.todo := rest }
  have moved := (runLine_onPath (s := { s with seq.todo := rest }) path).moved
  rwa [effect.ctrl] at moved

theorem phaseMove_mem {w : Bool} {p q : Phase} (h : phaseMove w p q = true) :
    (p, q) ∈ [(Phase.idle, Phase.requested), (Phase.requested, Phase.waiting), (Phase.complete, Phase.idle)] ++
      if w then [(Phase.waiting, Phase.complete)] else [(Phase.waiting, Phase.idle)] := by
  unfold phaseMove at h
  split at h
  · exact List.mem_append_left _ (by decide)
  · exact List.mem_append_left _ (by decide)
  · exact List.mem_append_left _ (by decide)
  · rw [h]; decide
  · rw [Bool.not_eq_true' w |>.mp h]; decide
  · cases h

/-- Settles O21, by the writers of each register along a step, and `tick_phase` for the path of `PHASE`. -/
theorem onlyAlarmCommandsMoveTheCursor : Obligations.OnlyAlarmCommandsMoveTheCursor := by
  refine ⟨fun s t h next noReset => ?_, fun s h => h.idle_phase, fun s h => (tick_phase h).imp_right phaseMove_mem⟩
  have registers := step_untouched h next noReset
  refine ⟨?_, not_imp_comm.mp registers.addrCrcErr, not_imp_comm.mp registers.phase⟩
  rintro (asAddr | asJunction | asExhausted)
  · exact not_imp_comm.mp registers.asAddr asAddr
  · exact not_imp_comm.mp registers.asJunction asJunction
  · exact not_imp_comm.mp registers.asExhausted asExhausted

/-! ### Statements about every state -/

/-- The history and the pull-up level go together in every step but a reset, which is no event (R55, R97, R370). -/
theorem StepCase.recorded {s t : State} (c : StepCase s t) :
    Recorded s t ∨ (t.trace = s.trace ∧ ∃ ts, s.env.turns = .reset :: ts) := by
  cases c with
  | runs => exact .inl (runBlock_recorded _ (dropTurn s))
  | reset ts turns => exact .inr ⟨rfl, ts, turns⟩
  | command op ts turns idle i decoded l code =>
    exact .inl (runBlock_recorded s.quantum (beginCommand i l code { dropTurn s with lastCmd := op }))
  | host _ turn => exact .inl turn.access.recorded

/-- Settles O18, by composing the events of the steps of the block (`tick_recorded`). -/
theorem pullupIsMirroredAndReleased : Obligations.PullupIsMirroredAndReleased := by
  intro s t next
  obtain ⟨es, trace, released, level⟩ | ⟨trace, ts, turns⟩ := (step_cases next).recorded
  · exact ⟨es, trace, released, fun _ => level⟩
  · exact ⟨[], by rw [trace, List.append_nil], rfl, fun noReset => absurd turns (noReset ts)⟩

/-- A host access clears a sticky bit only by a write of 1 to it in `STATUS` (R43, R332, R337). -/
theorem HostTurn.sticky {s t : State} (h : HostTurn s t) :
    (s.status.illegal = true → t.status.illegal = true ∨
      ∃ v ts, s.env.turns = .write 0x01 v :: ts ∧ v.getLsbD 2 = true) ∧
    (s.status.overrun = true → t.status.overrun = true ∨
      ∃ v ts, s.env.turns = .write 0x01 v :: ts ∧ v.getLsbD 3 = true) := by
  cases h with
  | read off ts turns =>
    obtain ⟨rd, e⟩ := hostRead_eq off (dropTurn s)
    rw [e]
    exact ⟨.inl, .inl⟩
  | illegal => exact ⟨fun _ => .inl rfl, .inl⟩
  | overruns => exact ⟨.inl, fun _ => .inl rfl⟩
  | stores | ignored => exact ⟨.inl, .inl⟩
  | acknowledges v ts turns =>
    constructor
    · intro illegal
      cases bit : v.getLsbD 2 with
      | true => exact .inr ⟨v, ts, turns, bit⟩
      | false => exact .inl (by show (s.status.illegal && !v.getLsbD 2) = true; rw [illegal, bit]; rfl)
    · intro overrun
      cases bit : v.getLsbD 3 with
      | true => exact .inr ⟨v, ts, turns, bit⟩
      | false => exact .inl (by show (s.status.overrun && !v.getLsbD 3) = true; rw [overrun, bit]; rfl)

/-- Settles O17: no command reaches the sticky bits (`runBlock_sticky`). -/
theorem stickyBitsStay : Obligations.StickyBitsStay := by
  intro s t next
  cases step_cases next with
  | runs =>
    obtain ⟨illegal, overrun⟩ := runBlock_sticky (s.quantum + 1) (dropTurn s)
    exact ⟨fun set => .inl (illegal.trans set), fun set => .inl (overrun.trans set)⟩
  | reset ts turns => exact ⟨fun _ => .inr (.inl ⟨ts, turns⟩), fun _ => .inr (.inl ⟨ts, turns⟩)⟩
  | command op ts turns idle i decoded l code =>
    obtain ⟨illegal, overrun⟩ :=
      runBlock_sticky s.quantum (beginCommand i l code { dropTurn s with lastCmd := op })
    exact ⟨fun set => .inl (illegal.trans set), fun set => .inl (overrun.trans set)⟩
  | host _ turn =>
    obtain ⟨illegal, overrun⟩ := turn.sticky
    exact ⟨fun set => (illegal set).imp_right .inr, fun set => (overrun set).imp_right .inr⟩

/-- In the step that takes a request on an idle block, the operands are those of the state before, with `LAST_CMD` the
byte written (R42, R111, R331). -/
theorem StepCase.request {s t : State} (c : StepCase s t) {op : Byte} {ts : List Turn}
    (turns : s.env.turns = .write 0x00 op :: ts) (idle : s.status.busy = false) :
    SameOperands { s with lastCmd := op } t := by
  have theTurn {off : BitVec 6} {v : Byte} {ts' : List Turn} (h : s.env.turns = .write off v :: ts') :
      off = 0x00 ∧ v = op := by
    obtain ⟨⟨⟩, _⟩ := List.cons.inj (turns.symm.trans h)
    exact ⟨rfl, rfl⟩
  cases c with
  | runs none => rw [turns] at none; simp at none
  | reset ts' h => exact absurd (turns.symm.trans h) (by simp)
  | command op' ts' h _ i decoded l code =>
    obtain ⟨-, rfl⟩ := theTurn h
    exact { runBlock_sameOperands s.quantum (beginCommand i l code { dropTurn s with lastCmd := op' }) with }
  | host _ turn =>
    cases turn with
    | read off ts' h => exact absurd (turns.symm.trans h) (by simp)
    | illegal op' ts' h => obtain ⟨-, rfl⟩ := theTurn h; exact { SameOperands.refl { s with lastCmd := op' } with }
    | overruns off v ts' h busy => exact absurd (idle.symm.trans busy) Bool.false_ne_true
    | acknowledges v ts' h => exact absurd (theTurn h).1 (by decide)
    | stores off v ts' h notCmd | ignored off v ts' h notCmd => exact absurd (theTurn h).1 notCmd

/-- In a step that is no reset and no host write, the operands stay (R32 to R34, R41, R42, R45). -/
theorem StepCase.sameOperands {s t : State} (c : StepCase s t) (noReset : ∀ ts, s.env.turns ≠ .reset :: ts)
    (noWrite : ∀ off v ts, s.env.turns ≠ .write off v :: ts) : SameOperands s t := by
  cases c with
  | runs => exact { runBlock_sameOperands (s.quantum + 1) (dropTurn s) with }
  | reset ts turns => exact absurd turns (noReset ts)
  | command op ts turns => exact absurd turns (noWrite _ op ts)
  | host _ turn =>
    cases turn with
    | read off ts turns =>
      obtain ⟨rd, e⟩ := hostRead_eq off (dropTurn s)
      rw [e]
      exact { SameOperands.refl s with }
    | illegal _ ts turns | overruns _ _ ts turns | acknowledges _ ts turns | stores _ _ ts turns
    | ignored _ _ ts turns => exact absurd turns (noWrite _ _ ts)

/-- No step changes a parameter (R10 to R15). -/
theorem StepCase.params {s t : State} (c : StepCase s t) : t.params = s.params := by
  cases c with
  | runs => exact (runBlock_sameOperands _ (dropTurn s)).params
  | reset => rfl
  | command op ts turns idle i decoded l code =>
    exact (runBlock_sameOperands s.quantum (beginCommand i l code { dropTurn s with lastCmd := op })).params
  | host _ turn => exact turn.access.params

/-- Settles O22: no step of the block writes an operand (`tick_sameOperands`). -/
theorem commandsKeepTheOperands : Obligations.CommandsKeepTheOperands := by
  intro s t next
  have c := step_cases next
  refine ⟨c.params, fun noReset noWrite => ?_, fun op ts idle turns => ?_⟩
  · have same := c.sameOperands noReset noWrite
    exact ⟨same.arg, same.addrIn, same.addrCmp, same.handlerId, same.ctrl, same.lastCmd⟩
  · have same := c.request turns idle
    exact ⟨same.arg, same.addrIn, same.addrCmp, same.handlerId, same.ctrl, same.lastCmd⟩

end Sys2Proof.Machine
end

section
/-! # The register map: host reads and writes (20_memory.md)

The map is read off once (`hostReg`), what a write and a read of a register does is said once for each kind of register,
and a statement combines the two. -/

namespace Sys2Proof.Machine

/-! ### The turn of a host access -/

theorem step_write {s : State} {off : BitVec 6} {v : Byte} {ts : List Turn} (turns : s.env.turns = .write off v :: ts) :
    step s = writeReg v { s with env.turns := ts } (hostReg off) := by
  unfold step nextTurn
  rw [turns]
  rfl

theorem step_read {s : State} {off : BitVec 6} {ts : List Turn} (turns : s.env.turns = .read off :: ts) :
    step s = .next (hostRead off { s with env.turns := ts }) := by
  unfold step nextTurn
  rw [turns]
  rfl

/-! ### The map (R82) -/

theorem hostReg_addrIn {i : Nat} (h : i < 8) : hostReg (BitVec.ofNat 6 (0x10 + i)) = .addrIn i := by
  interval_cases i <;> rfl

theorem hostReg_addrCmp {i : Nat} (h : i < 8) : hostReg (BitVec.ofNat 6 (0x18 + i)) = .addrCmp i := by
  interval_cases i <;> rfl

theorem hostReg_addrOut {i : Nat} (h : i < 8) : hostReg (BitVec.ofNat 6 (0x20 + i)) = .addrOut i := by
  interval_cases i <;> rfl

theorem hostReg_spBuf {i : Nat} (h : i < 9) : hostReg (BitVec.ofNat 6 (0x28 + i)) = .spBuf i := by
  interval_cases i <;> rfl

theorem hostReg_reserved_iff : ∀ off : BitVec 6, hostReg off = .reserved ↔ off = 0x0B#6 ∨ 0x31 ≤ off.toNat := by decide

theorem hostReg_status_iff : ∀ off : BitVec 6, hostReg off = .status ↔ off = 0x01#6 := by decide

/-- Whether a host write of the register is performed on an idle block only, and overruns on a busy one (R86). -/
def isGuardedReg : HostReg → Bool
  | .cmd | .ctrl | .arg | .handlerId | .addrIn _ | .addrCmp _ | .spBuf _ => true
  | .status | .globalRes | .deviceCount | .resOut | .alarmT | .crcAcc | .phase | .tempFp _ | .addrOut _
  | .reserved => false

theorem isGuardedReg_hostReg : ∀ off : BitVec 6, isGuardedReg (hostReg off) = true ↔
    off ∈ [0x00#6, 0x02#6, 0x03#6, 0x04#6] ∨ (0x10 ≤ off.toNat ∧ off.toNat ≤ 0x1F) ∨
      (0x28 ≤ off.toNat ∧ off.toNat ≤ 0x30) := by decide

theorem hostReg_readOnly : ∀ off : BitVec 6,
    (0x05 ≤ off.toNat ∧ off.toNat ≤ 0x0F) ∨ (0x20 ≤ off.toNat ∧ off.toNat ≤ 0x27) ∨ 0x31 ≤ off.toNat →
    hostReg off ≠ .status ∧ isGuardedReg (hostReg off) = false := by decide

theorem isResultReg_hostReg : ∀ off : BitVec 6, isResultReg (hostReg off) = true ↔
    off ∈ [0x05#6, 0x06#6, 0x07#6, 0x08#6, 0x09#6] ∨ (0x0C ≤ off.toNat ∧ off.toNat ≤ 0x0F) ∨
      (0x20 ≤ off.toNat ∧ off.toNat ≤ 0x30) := by decide

/-! ### Writes of a register (R83, R86) -/

theorem storeOrOverrun_busy (stored : State) {s : State} (busy : s.status.busy = true) :
    storeOrOverrun stored s = .next (overrun s) := by
  unfold storeOrOverrun
  rw [if_pos busy]

theorem storeOrOverrun_idle (stored : State) {s : State} (idle : s.status.busy = false) :
    storeOrOverrun stored s = .next stored := by
  unfold storeOrOverrun
  rw [if_neg (Bool.eq_false_iff.mp idle)]

theorem requestCommand_busy (op : Byte) {s : State} (busy : s.status.busy = true) :
    requestCommand op s = .next (overrun s) := by
  unfold requestCommand
  rw [if_pos busy]

/-- Read-only and reserved: neither `STATUS`, whose write acknowledges, nor guarded. -/
theorem writeReg_readOnly (v : Byte) (s : State) {r : HostReg} (notStatus : r ≠ .status)
    (notGuarded : isGuardedReg r = false) : writeReg v s r = .next s := by
  cases r with
  | status => exact absurd rfl notStatus
  | cmd | ctrl | arg | handlerId | addrIn | addrCmp | spBuf => exact absurd notGuarded.symm Bool.false_ne_true
  | globalRes | deviceCount | resOut | alarmT | crcAcc | phase | tempFp | addrOut | reserved => rfl

theorem writeReg_guarded_busy (v : Byte) {s : State} {r : HostReg} (busy : s.status.busy = true)
    (guarded : isGuardedReg r = true) : writeReg v s r = .next (overrun s) := by
  cases r with
  | cmd => exact requestCommand_busy v busy
  | ctrl | arg | handlerId | addrIn | addrCmp | spBuf => exact storeOrOverrun_busy _ busy
  | status | globalRes | deviceCount | resOut | alarmT | crcAcc | phase | tempFp | addrOut | reserved =>
    exact absurd guarded Bool.false_ne_true

/-- Settles O5, by the kind of the register at the offset: `STATUS`, guarded, or read-only. -/
theorem writesWhileBusy : Obligations.WritesWhileBusy := by
  intro s off v ts busy turns
  rw [step_write turns]
  by_cases status : off = 0x01#6
  · subst status
    rfl
  have notStatus : hostReg off ≠ .status := mt (hostReg_status_iff off).mp status
  rw [if_neg status]
  by_cases guarded : isGuardedReg (hostReg off) = true
  · rw [if_pos ((isGuardedReg_hostReg off).mp guarded)]
    exact writeReg_guarded_busy v busy guarded
  · rw [if_neg (mt (isGuardedReg_hostReg off).mpr guarded)]
    exact writeReg_readOnly v _ notStatus (Bool.eq_false_iff.mpr guarded)

/-- On an idle block a write of an operand or control register stores what its register stores (R82). -/
theorem step_stores {s stored : State} {off : BitVec 6} {v : Byte} {ts : List Turn} {r : HostReg}
    (turns : s.env.turns = .write off v :: ts) (idle : s.status.busy = false) (reg : hostReg off = r)
    (stores : writeReg v { s with env.turns := ts } r = storeOrOverrun stored { s with env.turns := ts }) :
    step s = .next stored := by
  rw [step_write turns, reg, stores]
  exact storeOrOverrun_idle stored idle

theorem setIfInBounds_eq_set {n : Nat} (a : Vector Byte n) {i : Nat} (v : Byte) (h : i < n) :
    a.setIfInBounds i v = a.set i v h := by
  ext j hj
  simp [Vector.getElem_setIfInBounds, Vector.getElem_set]

/-- Settles O6, register by register. -/
theorem writesWhileIdle : Obligations.WritesWhileIdle := by
  intro s v ts idle
  refine ⟨fun turns => ?status, fun turns => ?ctrl, fun turns => ?arg, fun turns => ?handlerId,
    fun i h turns => ?addrIn, fun i h turns => ?addrCmp, fun i h turns => ?spBuf⟩
  case status => exact step_write turns
  case ctrl | arg | handlerId => exact step_stores turns idle rfl rfl
  case addrIn =>
    rw [← setIfInBounds_eq_set s.addrIn v h]
    exact step_stores turns idle (hostReg_addrIn h) rfl
  case addrCmp =>
    rw [← setIfInBounds_eq_set s.addrCmp v h]
    exact step_stores turns idle (hostReg_addrCmp h) rfl
  case spBuf =>
    rw [← setIfInBounds_eq_set s.spBuf v h]
    exact step_stores turns idle (hostReg_spBuf h) rfl

/-! ### Reads (R81, R87) -/

theorem hostByte_setTurns (s : State) (ts : List Turn) (off : BitVec 6) :
    hostByte { s with env.turns := ts } off = hostByte s off := by
  unfold hostByte
  cases hostReg off with
  | _ => rfl

theorem step_read_free {s : State} {off : BitVec 6} {ts : List Turn} (turns : s.env.turns = .read off :: ts)
    (busy : s.status.busy = true) (result : isResultReg (hostReg off) = true) : step s = .next { s with
      env.turns := ts, reads := s.reads ++ [(off, Config.freeRead s.reads.length)] } := by
  rw [step_read turns]
  unfold hostRead
  rw [if_pos (Bool.and_eq_true_iff.mpr ⟨busy, result⟩)]

theorem step_read_current {s : State} {off : BitVec 6} {ts : List Turn} (turns : s.env.turns = .read off :: ts)
    (current : ¬ (s.status.busy = true ∧ isResultReg (hostReg off) = true)) :
    step s = .next { s with env.turns := ts, reads := s.reads ++ [(off, hostByte s off)] } := by
  rw [step_read turns, ← hostByte_setTurns s ts off]
  unfold hostRead
  rw [if_neg (mt Bool.and_eq_true_iff.mp current)]

/-- Settles O8: the read answers a free value where the block is busy and the register a result register. -/
theorem hostReadsHaveNoSideEffect : Obligations.HostReadsHaveNoSideEffect := by
  intro s off ts turns
  have result := isResultReg_hostReg off
  split
  next free => exact step_read_free turns free.1 (result.mpr free.2)
  next current => exact step_read_current turns (mt (And.imp_right result.mp) current)

theorem hostByte_reserved (s : State) {off : BitVec 6} (h : hostReg off = .reserved) : hostByte s off = 0x00 := by
  unfold hostByte
  rw [h]
  rfl

theorem hostByte_addrIn (s : State) {i : Nat} (h : i < 8) :
    hostByte s (BitVec.ofNat 6 (0x10 + i)) = s.addrIn[i] := by
  simp [hostByte, hostReg_addrIn h, regByte, h]

theorem hostByte_addrCmp (s : State) {i : Nat} (h : i < 8) :
    hostByte s (BitVec.ofNat 6 (0x18 + i)) = s.addrCmp[i] := by
  simp [hostByte, hostReg_addrCmp h, regByte, h]

theorem hostByte_addrOut (s : State) {i : Nat} (h : i < 8) :
    hostByte s (BitVec.ofNat 6 (0x20 + i)) = s.addrOut[i] := by
  simp [hostByte, hostReg_addrOut h, regByte, h]

theorem hostByte_spBuf (s : State) {i : Nat} (h : i < 9) :
    hostByte s (BitVec.ofNat 6 (0x28 + i)) = s.spBuf[i] := by
  simp [hostByte, hostReg_spBuf h, regByte, h]

/-! ### The bits of `STATUS` and `CTRL` (R43, R45) -/

theorem flagBit_getElem (v : Bool) (n : Nat) {i : Nat} (h : i < 8) : (flagBit v n)[i] = (v && decide (i = n)) := by
  cases v with
  | false => simp [flagBit]
  | true => simp [flagBit, ← BitVec.twoPow_eq]

theorem statusByte_bits (t : Status) : (List.range 8).map (statusByte t).getLsbD
    = [t.busy, t.result, t.illegal, t.overrun, t.addrCrcErr, t.parasite, t.pullupOn, t.asExhausted] := by
  simp [statusByte, flagBit_getElem, List.range_succ]

theorem ctrlByte_bits (c : Ctrl) : (List.range 8).map (ctrlByte c).getLsbD
    = [c.waitEn, c.pollEn, c.copyEn, false, false, false, false, false] := by
  simp [ctrlByte, flagBit_getElem, List.range_succ]

theorem byte_eq_of_bits {a b : Byte} (h : (List.range 8).map a.getLsbD = (List.range 8).map b.getLsbD) : a = b :=
  BitVec.eq_of_getLsbD_eq fun i hi => List.map_inj_left.mp h i (List.mem_range.mpr hi)

theorem ctrlByte_reserved (c : Ctrl) : ctrlByte c &&& 0xF8 = 0x00 :=
  byte_eq_of_bits (by simp [ctrlByte, flagBit_getElem, List.range_succ])

theorem ctrlByte_ctrlOfByte (v : Byte) : ctrlByte (ctrlOfByte v) = v &&& 0x07 :=
  byte_eq_of_bits (by rw [ctrlByte_bits]; simp [ctrlOfByte, List.range_succ])

/-- Settles O7: no read of a reserved offset is free, and a write of `CTRL` stores what `writesWhileIdle` says. -/
theorem reservedAndReadOnlyOffsets : Obligations.ReservedAndReadOnlyOffsets := by
  refine ⟨fun s off reserved ts turns => ?_, fun s off v ts readOnly turns => ?_,
    fun s => ctrlByte_reserved s.ctrl, fun s v ts idle turns => ?_⟩
  · have reg := (hostReg_reserved_iff off).mpr reserved
    have current : ¬ (s.status.busy = true ∧ isResultReg (hostReg off) = true) := by simp [reg, isResultReg]
    rw [step_read_current turns current, hostByte_reserved s reg]
  · obtain ⟨notStatus, notGuarded⟩ := hostReg_readOnly off readOnly
    rw [step_write turns, writeReg_readOnly v _ notStatus notGuarded]
  · obtain ⟨-, writeCtrl, -⟩ := writesWhileIdle s v ts idle
    exact ⟨_, writeCtrl turns, ctrlByte_ctrlOfByte v⟩

/-- Settles O9, offset by offset: a single-byte register is its offset's byte by the map (`rfl`). -/
theorem registersAreLittleEndian : Obligations.RegistersAreLittleEndian := by
  intro s
  refine ⟨rfl, statusByte_bits s.status, ctrlByte_bits s.ctrl, rfl, rfl, ?globalRes, rfl, rfl, rfl, rfl, ?phase,
    rfl, rfl, rfl, rfl, rfl, fun i h => ⟨hostByte_addrIn s h, hostByte_addrCmp s h, hostByte_addrOut s h⟩,
    fun i h => hostByte_spBuf s h, fun off h => hostByte_reserved s ((hostReg_reserved_iff off).mpr (.inr h))⟩
  case globalRes =>
    show resByte s.globalRes = _
    cases s.globalRes with
    | _ => rfl
  case phase =>
    show phaseByte s.phase = _
    cases s.phase with
    | _ => rfl

end Sys2Proof.Machine
end

section
/-! # The command code (30_encoding.md)

The decoder inverts the encoder (`decode_encode`, `decode_cases`), so the codes R113 assigns are the codes of the
commands, and every other byte is rejected. -/

namespace Sys2Proof

/-- The commands in the order of R113. -/
def allCommands : List Instr :=
  [.nop, .init, .crcClr, .crcPush, .validAddr, .addrEq, .getAddr, .getCount, .isConn, .isConnSp, .readSp, .writeSp,
   .getRes, .setRes, .setGres, .readPower, .getTh, .getTl, .setTh, .setTl, .calcTemp, .getTemp, .getTempIdx, .reqTemps,
   .reqTempAddr, .reqTempIdx, .asReset, .alarmSearch, .hasAlarmAddr, .hasAlarmAny, .processAlarms]

theorem mem_allCommands (i : Instr) : i ∈ allCommands := by
  cases i with
  | _ => decide

theorem map_encode_allCommands : allCommands.map encode = assignedCodes := rfl

theorem decode_encode (i : Instr) : decode (encode i) = .ok i := by
  cases i with
  | _ => rfl

/-- A byte is the code of the command it decodes to, or is rejected by name (R116, R117). -/
theorem decode_cases (op : Byte) :
    (∃ i, decode op = .ok i ∧ encode i = op) ∨ decode op = .error (.illegalCommand op) := by
  unfold decode
  split
  any_goals exact .inl ⟨_, rfl, rfl⟩
  next => exact .inr rfl

theorem encode_injective : Function.Injective encode := fun i j h =>
  Except.ok.inj ((decode_encode i).symm.trans ((congrArg decode h).trans (decode_encode j)))

theorem encode_ne_of_decode_error {op : Byte} {e : DecodeError} (h : decode op = .error e) (j : Instr) :
    encode j ≠ op := by
  rintro rfl
  rw [decode_encode] at h
  cases h

theorem mem_assignedCodes {op : Byte} : op ∈ assignedCodes ↔ ∃ i, encode i = op := by
  rw [← map_encode_allCommands, List.mem_map]
  exact exists_congr fun i => and_iff_right (mem_allCommands i)

theorem wellFormedCode_iff {op : Byte} : wellFormedCode op = true ↔ op ∈ assignedCodes := List.contains_iff_mem

theorem wellFormedCode_of_decode_error {op : Byte} {e : DecodeError} (h : decode op = .error e) :
    wellFormedCode op = false := by
  refine Bool.eq_false_iff.mpr fun wellFormed => ?_
  obtain ⟨j, code⟩ := mem_assignedCodes.mp (wellFormedCode_iff.mp wellFormed)
  exact encode_ne_of_decode_error h j code

/-! ### The 256 bytes -/

/-- The bytes in increasing order. -/
def allBytes : List Byte := (List.range 256).map (BitVec.ofNat 8)

theorem mem_allBytes (op : Byte) : op ∈ allBytes :=
  List.mem_map.mpr ⟨op.toNat, List.mem_range.mpr op.isLt, BitVec.ofNat_toNat ..⟩

theorem allBytes_nodup : allBytes.Nodup :=
  List.nodup_range.map_on fun m hm n hn h => by
    have toNat := congrArg BitVec.toNat h
    rwa [BitVec.toNat_ofNat, BitVec.toNat_ofNat, Nat.mod_eq_of_lt (List.mem_range.mp hm),
      Nat.mod_eq_of_lt (List.mem_range.mp hn)] at toNat

theorem filter_wellFormedCode_perm : (allBytes.filter wellFormedCode).Perm assignedCodes := by
  refine (List.perm_ext_iff_of_nodup (allBytes_nodup.filter _) (by decide)).mpr fun op => ?_
  rw [List.mem_filter, wellFormedCode_iff]
  exact and_iff_right (mem_allBytes op)

theorem countP_wellFormedCode : (List.range 256).countP (fun n => wellFormedCode (BitVec.ofNat 8 n)) = 31 :=
  calc (List.range 256).countP (fun n => wellFormedCode (BitVec.ofNat 8 n))
      = allBytes.countP wellFormedCode := List.countP_map.symm
    _ = (allBytes.filter wellFormedCode).length := List.countP_eq_length_filter
    _ = assignedCodes.length := filter_wellFormedCode_perm.length_eq

/-! ### The statements -/

/-- Settles O1: both lists run through the commands in order, and each code decodes to its command. -/
theorem decoderReadsTheTable : Obligations.DecoderReadsTheTable :=
  List.map_congr_left (l := allCommands) (f := decode ∘ encode) fun i _ => decode_encode i

/-- Settles O2, by what decoding a byte answers (`decode_cases`). -/
theorem decodingIsTotal : Obligations.DecodingIsTotal := by
  refine ⟨fun op => ?_, countP_wellFormedCode, fun i _ => decode_encode i, fun nbits w length => ?_⟩
  · obtain ⟨i, decoded, code⟩ | rejected := decode_cases op
    · exact .inl ⟨i, decoded, code, fun j h => encode_injective (h.trans code.symm)⟩
    · exact .inr ⟨rejected, wellFormedCode_of_decode_error rejected, encode_ne_of_decode_error rejected⟩
  · exact if_neg fun h => length h.1

end Sys2Proof
end

section
/-! # The quantum (30_encoding.md R111, log 4)

A run of the block commutes with a change of what no line reads or writes (`runBlock_outside`), so the quantum only
groups steps of the block into steps of the machine (`run_eq_runBlock`). -/

namespace Sys2Proof.Machine

/-! ### A run of the block and what is outside it -/

theorem runBlock_outside (n : Nat) (il ov : Bool) (tu : List Turn) (rd : List (BitVec 6 × Byte)) (q : Nat)
    (s : State) : runBlock n (withOutside il ov tu rd q s) = withOutside il ov tu rd q (runBlock n s) := by
  induction n generalizing s with
  | zero => rfl
  | succ n ih =>
    cases busy : s.status.busy with
    | true => rw [runBlock_succ_busy n s busy, ← ih, ← tick_outside]; exact runBlock_succ_busy n _ busy
    | false => rw [runBlock_idle _ s busy]; exact runBlock_idle _ _ busy

/-- The sticky bits, the waiting turns, the log of reads and the quantum are those of the state before. -/
theorem runBlock_keepsOutside (n : Nat) (s : State) :
    runBlock n s = withOutside s.status.illegal s.status.overrun s.env.turns s.reads s.quantum (runBlock n s) :=
  runBlock_outside n s.status.illegal s.status.overrun s.env.turns s.reads s.quantum s

theorem runBlock_turns (n : Nat) (s : State) : (runBlock n s).env.turns = s.env.turns :=
  congrArg (·.env.turns) (runBlock_keepsOutside n s)

theorem runBlock_quantum (n : Nat) (s : State) : (runBlock n s).quantum = s.quantum :=
  congrArg (·.quantum) (runBlock_keepsOutside n s)

theorem runBlock_setQuantum (n q : Nat) (s : State) :
    runBlock n { s with quantum := q } = { runBlock n s with quantum := q } := by
  rw [runBlock_keepsOutside n s]
  exact runBlock_outside n s.status.illegal s.status.overrun s.env.turns s.reads q s

/-! ### Steps of the machine -/

theorem step_of_no_turns {s : State} (turns : s.env.turns = []) : step s = .next (advance s) := by
  unfold step nextTurn
  rw [turns]

theorem run_succ {k : Nat} {s t : State} (next : step s = .next t) :
    Host.Core.run Sys2Proof.core (k + 1) s = Host.Core.run Sys2Proof.core k t := by
  have coreStep : Sys2Proof.core.step s = .next t := next
  simp only [Host.Core.run, coreStep]

theorem run_eq_runBlock (k : Nat) {s : State} (turns : s.env.turns = []) :
    Host.Core.run Sys2Proof.core k s = .next (runBlock (k * (s.quantum + 1)) s) := by
  induction k generalizing s with
  | zero => rw [Nat.zero_mul]; rfl
  | succ k ih =>
    calc Host.Core.run Sys2Proof.core (k + 1) s
        = Host.Core.run Sys2Proof.core k (advance s) := run_succ (step_of_no_turns turns)
      _ = .next (runBlock (k * ((advance s).quantum + 1)) (advance s)) := ih ((runBlock_turns _ s).trans turns)
      _ = .next (runBlock (k * (s.quantum + 1)) (runBlock (s.quantum + 1) s)) := by
        unfold advance; rw [runBlock_quantum]
      _ = .next (runBlock ((k + 1) * (s.quantum + 1)) s) := by
        rw [← runBlock_add, Nat.succ_mul, Nat.add_comm]

/-- The block starts a `Delay` (R96), and waits in a step of its own (log 10). -/
theorem tick_delay {s : State} {us : Nat} {rest : List Line} (todo : s.seq.todo = .delay us :: rest) :
    tick s = { s with trace := s.trace ++ [.delay us], seq.todo := .waitUntil (s.clock + us) :: rest } :=
  tick_line todo Bool.false_ne_true

theorem tick_waitUntil {s : State} {deadline : Nat} {rest : List Line}
    (todo : s.seq.todo = .waitUntil deadline :: rest) (more : rest ≠ []) :
    tick s = endDelay deadline { s with seq.todo := rest } := by
  rw [tick_line todo Bool.false_ne_true]
  exact if_neg (mt List.isEmpty_iff.mp more)

/-- Settles O14: a step with no turn waiting is a run of the block, and runs compose (`run_eq_runBlock`). -/
theorem stepsRunTheLines : Obligations.StepsRunTheLines := by
  refine ⟨fun k s turns => run_eq_runBlock k turns, fun s x rest todo primitive on => ?_,
    fun s us rest todo more => ⟨tick_delay todo, ?_⟩⟩
  · exact tick_release todo (Bool.and_eq_true_iff.mpr ⟨primitive, on⟩)
  · rw [tick_delay todo]
    exact ⟨_, _, (le_max_right _ _).trans (Nat.le_add_right _ _), tick_waitUntil rfl more⟩

/-! ### A command's start -/

/-- A command starts in the same state, with the same lines and local variables, whatever the quantum (R111). -/
theorem exec_setQuantum (i : Instr) (s : State) : ∃ start : State, start.env = s.env ∧
    exec i s = .next (runBlock s.quantum start) ∧
    ∀ q, exec i { s with quantum := q } = .next (runBlock q { start with quantum := q }) := by
  cases i with
  | _ => exact ⟨beginCommand _ _ _ s, rfl, rfl, fun _ => rfl⟩

/-- Settles O15: both runs are the same steps of the block, and a command that has ended stays ended. -/
theorem quantumDoesNotMatter : Obligations.QuantumDoesNotMatter := by
  intro i s t q turns next ended
  obtain ⟨start, sameEnv, begins, beginsAny⟩ := exec_setQuantum i s
  have run : runBlock s.quantum start = t := Host.Outcome.next.inj (begins.symm.trans next)
  have noTurns : (runBlock q { start with quantum := q }).env.turns = [] := by
    rw [runBlock_turns]; exact (congrArg Env.turns sameEnv).trans turns
  obtain ⟨more, enough⟩ : ∃ more, q + s.quantum * (q + 1) = s.quantum + more :=
    Nat.exists_eq_add_of_le (by rw [Nat.mul_succ]; omega)
  refine ⟨s.quantum, _, beginsAny q, (run_eq_runBlock _ noTurns).trans (congrArg Host.Outcome.next ?_)⟩
  calc runBlock (s.quantum * ((runBlock q { start with quantum := q }).quantum + 1))
        (runBlock q { start with quantum := q })
      = runBlock (q + s.quantum * (q + 1)) { start with quantum := q } := by rw [runBlock_quantum, runBlock_add]
    _ = { runBlock (s.quantum + more) start with quantum := q } := by rw [enough, runBlock_setQuantum]
    _ = { t with quantum := q } := by rw [runBlock_more _ _ _ (by rw [run]; exact ended), run]

/-! ### The step that takes a request -/

theorem step_request {s : State} {op : Byte} {ts : List Turn} {i : Instr} (idle : s.status.busy = false)
    (turns : s.env.turns = .write 0x00 op :: ts) (decoded : decode op = .ok i) :
    step s = exec i { s with lastCmd := op, env.turns := ts } := by
  have request : step s = requestCommand op { s with env.turns := ts } := step_write turns
  have accepts : requestCommand op { s with env.turns := ts } = acceptCommand op { s with env.turns := ts } :=
    if_neg (Bool.eq_false_iff.mp idle)
  rw [request, accepts, acceptCommand, decoded]

/-- Settles O3; with quantum 0 the step ends where the command begins (`exec_begins`). -/
theorem stepRunsTheRequestedCommand : Obligations.StepRunsTheRequestedCommand := by
  intro s op ts i idle turns decoded
  have runs := step_request idle turns decoded
  refine ⟨runs, fun noQuantum => ?_⟩
  obtain ⟨l, code, begins, good⟩ := exec_begins i { s with lastCmd := op, env.turns := ts }
  refine ⟨⟨some i, code, l⟩, ?_, rfl, good.nonempty⟩
  rw [runs, begins, noQuantum]
  rfl

end Sys2Proof.Machine
end

section
/-! # The CRC-8 validator (40_crc_registry.md R140 to R144)

A round of `crc8_step` sees only the exclusive or of the running value and the rest of the byte (`crcRound`), so a step
is eight rounds on `c ^^^ b` (`crc8Step_eq`). Zero stays zero under a round, which gives the residues; a round can be
undone where the polynomial has bit 7 (`crcRound_injective`), so that one changed byte is always seen
(`crc8_set_ne`). -/

namespace Sys2Proof.Machine

/-! ### One round -/

/-- One round of the loop of `crc8_step` (R140) on the exclusive or of the running value and the rest of the byte. -/
def crcRound (poly x : Byte) : Byte := if x.getLsbD 0 then (x >>> 1) ^^^ poly else x >>> 1

theorem crcRound_xor (poly c b : Byte) : (if (c ^^^ b).getLsbD 0 then (c >>> 1) ^^^ poly else c >>> 1) ^^^ (b >>> 1)
    = crcRound poly (c ^^^ b) := by
  unfold crcRound
  rw [BitVec.ushiftRight_xor_distrib]
  split
  · rw [BitVec.xor_assoc, BitVec.xor_comm poly, ← BitVec.xor_assoc]
  · rfl

theorem crcRounds_eq (poly : Byte) (n : Nat) (c b : Byte) :
    crcRounds poly n c b = (crcRound poly)^[n] (c ^^^ b) ^^^ (b >>> n) := by
  induction n generalizing c b with
  | zero => simp [crcRounds]
  | succ n ih => rw [crcRounds, ih, crcRound_xor, Function.iterate_succ_apply, ← BitVec.shiftRight_add, Nat.add_comm]

/-- A step is eight rounds on the exclusive or of the running value and the byte (R140). -/
theorem crc8Step_eq (poly c b : Byte) : crc8Step poly c b = (crcRound poly)^[8] (c ^^^ b) := by
  have gone : b >>> 8 = 0#8 := BitVec.ushiftRight_eq_zero (le_refl 8)
  rw [crc8Step, crcRounds_eq, gone, BitVec.xor_zero]

/-! ### Residues (R142(a), R142(b)) -/

theorem crcRound_zero (poly : Byte) : crcRound poly 0 = 0 := rfl

@[simp] theorem crc8Step_self (poly c : Byte) : crc8Step poly c c = 0 := by
  rw [crc8Step_eq, BitVec.xor_self]
  exact Function.iterate_fixed (crcRound_zero poly) 8

theorem crc8_append (poly : Byte) (m n : List Byte) : crc8 poly (m ++ n) = n.foldl (crc8Step poly) (crc8 poly m) :=
  List.foldl_append ..

theorem crc8_append_crc8 (poly : Byte) (m : List Byte) : crc8 poly (m ++ [crc8 poly m]) = 0 := by
  rw [crc8_append, List.foldl_cons, crc8Step_self, List.foldl_nil]

theorem crc8_zeros (poly : Byte) (n : Nat) : crc8 poly (List.replicate n 0) = 0 := by
  induction n with
  | zero => rfl
  | succ n ih => rw [List.replicate_succ', crc8_append, ih, List.foldl_cons, crc8Step_self, List.foldl_nil]

/-! ### A changed byte is seen (R142(d)) -/

theorem crcRound_injective {poly : Byte} (top : poly.getLsbD 7 = true) : Function.Injective (crcRound poly) := by
  have bit7 (x : Byte) : (crcRound poly x).getLsbD 7 = x.getLsbD 0 := by
    unfold crcRound
    cases h : x.getLsbD 0 <;> simp [top]
  intro x y h
  have low : x.getLsbD 0 = y.getLsbD 0 := by rw [← bit7, ← bit7, h]
  have high : x >>> 1 = y >>> 1 := by
    unfold crcRound at h
    rw [low] at h
    split at h
    · exact (BitVec.xor_left_inj _).mp h
    · exact h
  refine BitVec.eq_of_getLsbD_eq fun j _ => ?_
  cases j with
  | zero => exact low
  | succ j => simpa [Nat.add_comm] using congrArg (·.getLsbD j) high

theorem crc8Step_eq_iff {poly : Byte} (top : poly.getLsbD 7 = true) {c d b e : Byte} :
    crc8Step poly c b = crc8Step poly d e ↔ c ^^^ b = d ^^^ e := by
  rw [crc8Step_eq, crc8Step_eq]
  exact ((crcRound_injective top).iterate 8).eq_iff

theorem crc8_foldl_injective {poly : Byte} (top : poly.getLsbD 7 = true) (m : List Byte) :
    Function.Injective (fun c => m.foldl (crc8Step poly) c) := by
  induction m with
  | nil => exact fun c d h => h
  | cons b m ih => exact fun c d h => (BitVec.xor_left_inj _).mp ((crc8Step_eq_iff top).mp (ih h))

/-- Messages that differ in one byte have different CRCs, whatever their length. -/
theorem crc8_set_ne {poly : Byte} (top : poly.getLsbD 7 = true) {m : List Byte} {k : Nat} (h : k < m.length) {v : Byte}
    (changed : v ≠ m[k]) : crc8 poly (m.set k v) ≠ crc8 poly m := by
  intro same
  have split : m = m.take k ++ m[k] :: m.drop (k + 1) := by rw [List.getElem_cons_drop, List.take_append_drop]
  rw [List.set_eq_take_append_cons_drop, if_pos h, crc8_append] at same
  conv_rhs at same => rw [split, crc8_append]
  exact changed ((BitVec.xor_right_inj _).mp ((crc8Step_eq_iff top).mp (crc8_foldl_injective top _ same)))

theorem xor_oneBit_ne (b : Byte) {i : Nat} (h : i < 8) : b ^^^ (1#8 <<< i) ≠ b := by
  intro same
  have bit : (1#8 <<< i).getLsbD i = false := by
    rw [show 1#8 <<< i = 0#8 from (BitVec.xor_right_inj _).mp (same.trans BitVec.xor_zero.symm), BitVec.getLsbD_zero]
  simp [h] at bit

/-- The address CRC fails on an address with one of bytes 0 to 6 changed, if it held before (R143). -/
theorem addrCrcOk_set {p : Params} (top : p.crcPolyR.getLsbD 7 = true) {a : Addr} {k : Nat} (h : k < 7) {v : Byte}
    (changed : v ≠ a[k]) (ok : addrCrcOk p a = true) : addrCrcOk p (a.set k v) = false := by
  have differs : crc8 p.crcPolyR ((a.toList.take 7).set k v) ≠ crc8 p.crcPolyR (a.toList.take 7) :=
    crc8_set_ne top (by simpa using h) (by simpa using changed)
  unfold addrCrcOk at ok ⊢
  rw [Vector.toList_set, List.take_set, Vector.getElem_set_ne _ _ (by omega), ← eq_of_beq ok]
  exact beq_eq_false_iff_ne.mpr differs

/-! ### Check values (R142) -/

theorem addrCrcOk_zeros : addrCrcOk defaultParams (Vector.replicate 8 0x00) = true :=
  beq_iff_eq.mpr (crc8_zeros 0x8C 7)

theorem padCrcOk_zeros : padCrcOk defaultParams (Vector.replicate 9 0x00) = true :=
  beq_iff_eq.mpr (crc8_zeros 0x8C 8)

theorem crc8_ones : crc8 0x8C (List.replicate 8 0xFF) = 0xC9 := by
  simp [crc8, crc8Step, crcRounds]

theorem padCrcOk_ones : padCrcOk defaultParams (Vector.replicate 9 0xFF) = false :=
  beq_eq_false_iff_ne.mpr fun same => absurd (crc8_ones.symm.trans same) (by decide)

theorem crc8_digits : crc8 0x8C [0x31, 0x32, 0x33, 0x34, 0x35, 0x36, 0x37, 0x38, 0x39] = 0xA1 := by
  simp [crc8, crc8Step, crcRounds]

/-- Settles O26: residues from `crc8Step_self`, flipped bits from `crc8_set_ne`, check values by computing them. -/
theorem crcConsequences : Obligations.CrcConsequences := by
  refine ⟨crc8_append_crc8 0x8C, crc8_zeros 0x8C, addrCrcOk_zeros, padCrcOk_zeros, crc8_ones, padCrcOk_ones,
    fun m k i h _ hi => crc8_set_ne (by decide) h (xor_oneBit_ne m[k] hi), fun a k i h hi valid => ?_, crc8_digits⟩
  have crc : addrCrcOk defaultParams a = true := (Bool.and_eq_true_iff.mp valid).1
  rw [isValidAddr, addrCrcOk_set (by decide) h (xor_oneBit_ne a[k] hi) crc, Bool.false_and]

end Sys2Proof.Machine
end

section
/-! # The control and registry commands (40_crc_registry.md R150 to R159)

Each command's lines run as its pseudocode says (Laws/Sequencer.lean, Laws/Loops.lean), so a statement is that run
within the quantum (`runCommand_act`, `Runs.done`). A search whose answers are scripted walks the script
(`pcLookup_scripted`, `pcCount_scripted`). -/

namespace Sys2Proof.Machine

/-! ### Commands of one program point -/

/-- A command that is one program point on the registers alone. -/
theorem runCommand_registers {i : Instr} {l : Locals} {x : Act} {s : State}
    (e : ∀ k, runAct x (beginCommand i l k s) = beginCommand i l k (runAct x s)) (quantum : 0 < s.quantum) :
    runCommand i l [.act x] s = .next (finishCommand (runAct x s)) :=
  runCommand_act e quantum

/-- Settles O24: the command is one program point (`runCommand_registers`). -/
theorem nopSetsResult : Obligations.NopSetsResult :=
  ⟨rfl, fun _ quantum => runCommand_registers (fun _ => rfl) quantum⟩

/-- Settles O25: each command is one program point (`runCommand_registers`). -/
theorem crcCommands : Obligations.CrcCommands :=
  ⟨rfl, rfl, fun _ quantum =>
    ⟨runCommand_registers (fun _ => rfl) quantum, runCommand_registers (fun _ => rfl) quantum⟩⟩

theorem toList_take_seven (a : Addr) : a.toList.take 7 = [a[0], a[1], a[2], a[3], a[4], a[5], a[6]] := by
  refine List.ext_getElem (by simp) fun j _ hj => ?_
  change j < 7 at hj
  interval_cases j <;> simp

theorem familyOf_isSome {p : Params} {c : Byte} : (familyOf p c).isSome = true ↔ c ∈ p.family.map Prod.fst := by
  rw [familyOf, List.lookup_isSome_iff, List.mem_map]
  exact exists_congr fun _ => and_congr_right fun _ => beq_iff_eq.trans eq_comm

/-- A valid address, with its bytes written out (R143). -/
theorem isValidAddr_iff {p : Params} {a : Addr} : isValidAddr p a = true ↔
    crc8 p.crcPolyR [a[0], a[1], a[2], a[3], a[4], a[5], a[6]] = a[7] ∧ a[0] ∈ p.family.map Prod.fst := by
  rw [isValidAddr, Bool.and_eq_true, addrCrcOk, beq_iff_eq, toList_take_seven, familyOf_isSome]

/-- Settles O27, by `isValidAddr_iff`. -/
theorem validAddrChecksCrcAndFamily : Obligations.ValidAddrChecksCrcAndFamily := by
  refine ⟨rfl, fun s quantum => ?_⟩
  simp only [← isValidAddr_iff, Bool.decide_eq_true]
  exact runCommand_registers (fun _ => rfl) quantum

theorem all_zipWith_beq {l m : List Byte} (length : l.length = m.length) :
    (List.zipWith (· == ·) l m).all id = true ↔ l = m := by
  induction l generalizing m with
  | nil => simp [List.eq_nil_of_length_eq_zero length.symm]
  | cons b l ih =>
    cases m with
    | nil => cases length
    | cons c m => simp [ih (Nat.succ.inj length)]

/-- The byte-wise comparison of R155 is equality. -/
theorem addrEqual_iff {a c : Addr} : addrEqual a c = true ↔ a = c := by
  rw [addrEqual, all_zipWith_beq (by simp), Vector.toList_inj]

/-- Settles O28, by `addrEqual_iff`. -/
theorem addrEqCompares : Obligations.AddrEqCompares := by
  refine ⟨rfl, fun s quantum => ?_⟩
  simp only [← addrEqual_iff, Bool.decide_eq_true]
  exact runCommand_registers (fun _ => rfl) quantum

/-! ### The check of a pad's CRC -/

/-- A command that reads the pad of `ADDR_IN` (R180), then works on the registers at one program point. -/
theorem runCommand_readPad {i : Instr} {x : Act} {s t : State} (roomy : Roomy s)
    (e : ∀ l k, l.sp = padAnswer s →
      runAct x (beginCommand i l k (pcReadPad s.addrIn s)) = beginCommand i l k t) :
    runCommand i Locals.start (readPadLines s.params s.addrIn ++ [.act x]) s = .next (finishCommand t) := by
  have pad := runs_readPad i Locals.start s s.addrIn s.params rfl
  have point := Runs.one (x := .act x)
    (fun k => e { Locals.start with present := presenceAnswer s, sp := padAnswer s } k rfl)
  exact (pad.append point (List.cons_ne_nil _ _)).done (le_trans (by decide) roomy)

/-- Settles O35, by the run of `ReadSPCore`. -/
theorem isConnResults : Obligations.IsConnResults := by
  refine ⟨rfl, rfl, fun s roomy =>
    ⟨runCommand_readPad roomy fun l k pad => ?_, runCommand_readPad roomy fun l k pad => ?_⟩⟩
  · rw [runAct, actIsConn, begin_loc, pad]
    rfl
  · rw [runAct, actIsConnSp, begin_loc, pad]
    rfl

/-! ### A scripted search -/

section
variable {t : State} {rest : List (Option Addr)}

theorem foundAnswer_scripted {f : Option Addr} (script : t.env.found.script = f :: rest) : foundAnswer t = f := by
  rw [foundAnswer, nextAnswer, script, List.headD_cons]

theorem pcSearchNext_scripted {f : Option Addr} (script : t.env.found.script = f :: rest) :
    (pcSearchNext t).env.found.script = rest := by
  rw [pcSearchNext_found, restAnswers, script, List.tail_cons]

/-- The walk of `GetAddrCore` along a script finds the address `k`, if it is there and none up to it is invalid
(R145). -/
theorem pcLookup_scripted {as : List Addr} {k : Nat} (script : t.env.found.script = as.map some ++ none :: rest) :
    (pcLookup k t).1 = if (as.take (k + 1)).all (isValidAddr t.params) then as[k]? else none := by
  induction as generalizing k t with
  | nil => simp [pcLookup, foundAnswer_scripted script]
  | cons a as ih =>
    have answer : foundAnswer t = some a := foundAnswer_scripted script
    have ih {k : Nat} := ih (k := k) (pcSearchNext_scripted script)
    unfold pcLookup
    rw [answer]
    cases valid : isValidAddr t.params a with
    | false => simp [valid]
    | true =>
      cases k with
      | zero => simp [valid]
      | succ k => simpa [valid] using ih

/-- The loop of `CountCore` along a script counts its valid addresses, up to 255 (R146). -/
theorem pcCount_scripted {as : List Addr} {n : Nat} (script : t.env.found.script = as.map some ++ none :: rest)
    (bound : n ≤ 255) : ∃ u,
      pcCount (as.length + 1) n t = some (min (n + as.countP (isValidAddr t.params)) 255, u) ∧
      u.env.found.script = rest := by
  induction as generalizing n t with
  | nil =>
    have answer : foundAnswer t = none := foundAnswer_scripted script
    exact ⟨pcSearchNext t, by simp [pcCount, answer, bound], pcSearchNext_scripted script⟩
  | cons a as ih =>
    have answer : foundAnswer t = some a := foundAnswer_scripted script
    have next : (pcSearchNext t).env.found.script = as.map some ++ none :: rest := pcSearchNext_scripted script
    rw [List.length_cons, pcCount, answer]
    cases valid : isValidAddr t.params a with
    | false => simpa [valid] using ih next bound
    | true =>
      have counted : min (countUp n + as.countP (isValidAddr t.params)) 255
          = min (n + (as.countP (isValidAddr t.params) + 1)) 255 := by unfold countUp; omega
      obtain ⟨u, count, left⟩ := ih next (countUp_le n)
      exact ⟨u, by simpa [valid, counted] using count, left⟩

end

/-! ### GET_ADDR -/

/-- What GET_ADDR writes of a lookup's result (R156). -/
def getAddrWrites (found : Option Addr) (t : State) : State :=
  match found with
  | some a => setResult true { t with addrOut := a }
  | none => setResult false { t with addrOut := Config.freeAddr t.addrDraws, addrDraws := t.addrDraws + 1 }

theorem exec_getAddr {s : State} (roomy : Roomy s) : exec .getAddr s =
    .next (finishCommand (getAddrWrites (pcGetAddr s.arg.toNat s).1 (pcGetAddr s.arg.toNat s).2)) := by
  have point : Runs .getAddr 1 [.act .getAddrOut] { Locals.start with found := (pcGetAddr s.arg.toNat s).1 }
      (pcGetAddr s.arg.toNat s).2 { Locals.start with found := (pcGetAddr s.arg.toNat s).1 }
      (getAddrWrites (pcGetAddr s.arg.toNat s).1 (pcGetAddr s.arg.toNat s).2) := by
    refine Runs.one fun k => ?_
    rw [line_act, runAct, actGetAddrOut, begin_loc]
    cases (pcGetAddr s.arg.toNat s).1 <;> rfl
  have index : s.arg.toNat < 256 := s.arg.isLt
  have room : 2 * (2 * s.arg.toNat + 3 + 1) ≤ s.quantum := by unfold Roomy at roomy; omega
  exact ((runs_getAddr s.arg.toNat).append point (List.cons_ne_nil _ _)).done room

theorem pcLookup_addrDraws (k : Nat) (t : State) : (pcLookup k t).2.addrDraws = t.addrDraws := by
  fun_induction pcLookup k t with
  | case3 _ _ _ _ _ ih => exact ih
  | _ => rfl

/-- Settles O29, by the run of `GetAddrCore` (`exec_getAddr`), which draws no address itself. -/
theorem getAddrResult : Obligations.GetAddrResult := by
  refine ⟨rfl, fun s roomy => (exec_getAddr roomy).trans ?_⟩
  have draws : (pcGetAddr s.arg.toNat s).2.addrDraws = s.addrDraws := pcLookup_addrDraws _ _
  rcases lookup : pcGetAddr s.arg.toNat s with ⟨found, t⟩
  rw [lookup] at draws
  cases found with
  | some a => rfl
  | none => rw [← draws]; rfl

/-- Settles O30, by the walk along the script (`pcLookup_scripted`). -/
theorem getAddrFindsTheIndexed : Obligations.GetAddrFindsTheIndexed := by
  intro s as rest roomy script
  have walk : (pcGetAddr s.arg.toNat s).1
      = if (as.take (s.arg.toNat + 1)).all (isValidAddr s.params) then as[s.arg.toNat]? else none :=
    pcLookup_scripted (t := perform .searchReset s) script
  refine ⟨_, exec_getAddr roomy, rfl, fun inRange valid => ?_, fun fails => ?_⟩
  · rw [walk, if_pos valid, List.getElem?_eq_getElem inRange]
    exact ⟨rfl, rfl⟩
  · have notFound : (pcGetAddr s.arg.toNat s).1 = none := by
      rw [walk]
      obtain tooFew | invalid := fails
      · rw [List.getElem?_eq_none tooFew, ite_self]
      · rw [invalid]; rfl
    rw [notFound]
    rfl

/-! ### GET_COUNT -/

/-- A command that resets the search (R94), then loops over its answers. -/
theorem runCommand_search {i : Instr} {x : Line} {m : Nat} {l : Locals} {s t : State}
    (loop : Runs i m [.searchNext, x] Locals.start (perform .searchReset s) l t) (room : 2 * (1 + m) ≤ s.quantum) :
    runCommand i Locals.start [.searchReset, .searchNext, x] s = .next (finishCommand t) :=
  ((Runs.one fun k => line_searchReset i Locals.start k s).cons loop (List.cons_ne_nil _ _)).done room

/-- Settles O31, by the run of `CountCore` (`runs_count`). -/
theorem getCountResult : Obligations.GetCountResult := by
  refine ⟨rfl, fun s fuel n t count room => ?_⟩
  obtain ⟨l, loop⟩ := runs_count (i := .getCount) fuel Locals.start (perform .searchReset s) n t count
  exact runCommand_search loop (by omega)

/-- Settles O32, by the count along the script (`pcCount_scripted`). -/
theorem getCountCountsTheValid : Obligations.GetCountCountsTheValid := by
  intro s as rest script room
  obtain ⟨u, count, left⟩ := pcCount_scripted (t := perform .searchReset s) script (Nat.zero_le 255)
  rw [Nat.zero_add] at count
  exact ⟨_, getCountResult.2 s _ _ u count (by omega), rfl, rfl, rfl, left⟩

/-! ### INIT -/

theorem pcSurvey_globalRes (fuel : Nat) (v : Survey) (t : State) {w : Survey} {u : State}
    (survey : pcSurvey fuel v t = some (w, u)) : u.globalRes = t.globalRes := by
  induction fuel generalizing v t with
  | zero => cases survey
  | succ fuel ih =>
    unfold pcSurvey at survey
    split at survey
    · cases survey
      rfl
    · split at survey
      · simpa using ih _ _ survey
      · exact ih v (pcSearchNext t) survey

/-- Settles O34, by the run of the survey (`runs_survey`). -/
theorem initResult : Obligations.InitResult := by
  refine ⟨rfl, fun s fuel v t survey room => ?_⟩
  obtain ⟨l, loop⟩ := runs_survey (i := .init) fuel Locals.start (perform .searchReset s) v t survey
  rw [pcSurvey_globalRes fuel _ _ survey] at loop
  exact runCommand_search loop (by omega)

end Sys2Proof.Machine
end

section
/-! # What the shared routines change (41_scratchpad.md, 40_crc_registry.md, 43_conversion.md, 44_alarm.md)

Each function of the pseudocode is a composition of primitives, and `onlyTheBus s t` extends along every one of them,
so the frame of a routine is the composition of its primitives' frames, and that of a loop an induction on its bound. -/

namespace Sys2Proof.Machine

/-! ### The relations compose -/

section
variable {s t u : State}

theorem onlyTheBus.refl (s : State) : onlyTheBus s s := rfl

theorem onlyTheBus.trans (h : onlyTheBus s t) (k : onlyTheBus t u) : onlyTheBus s u := by
  unfold onlyTheBus at *
  exact k.trans (by rw [h])

theorem onlyTheBusAndCursor.refl (s : State) : onlyTheBusAndCursor s s := rfl

theorem onlyTheBusAndCursor.trans (h : onlyTheBusAndCursor s t) (k : onlyTheBusAndCursor t u) :
    onlyTheBusAndCursor s u := by
  unfold onlyTheBusAndCursor at *
  exact k.trans (by rw [h])

theorem onlyTheBus.andCursor (h : onlyTheBus s t) : onlyTheBusAndCursor s t := by
  unfold onlyTheBus at h
  rw [h]
  rfl

/-! ### Primitives -/

theorem onlyTheBus.perform (e : Event) (h : onlyTheBus s t) : onlyTheBus s (perform e t) := h.trans rfl

theorem onlyTheBus.pcReset (h : onlyTheBus s t) : onlyTheBus s (pcReset t) := h.trans rfl

theorem onlyTheBus.pcReadBit (h : onlyTheBus s t) : onlyTheBus s (pcReadBit t) := h.trans rfl

theorem onlyTheBus.pcSearchNext (h : onlyTheBus s t) : onlyTheBus s (pcSearchNext t) := h.trans rfl

theorem onlyTheBus.pcReadPad (a : Addr) (h : onlyTheBus s t) : onlyTheBus s (pcReadPad a t) := h.trans rfl

theorem onlyTheBus.busSetPullup (on : Bool) (h : onlyTheBus s t) : onlyTheBus s (busSetPullup on t) := h.trans rfl

theorem onlyTheBus.delayFor (us : Nat) (h : onlyTheBus s t) : onlyTheBus s (delayFor us t) := h.trans rfl

theorem onlyTheBus.readClock (h : onlyTheBus s t) : onlyTheBus s (readClock t) := h.trans rfl

/-! ### Scratchpad, power and resolution -/

theorem onlyTheBus.pcReadPower (a : Addr) (h : onlyTheBus s t) : onlyTheBus s (pcReadPower a t) :=
  ((h.pcReset.perform _).perform _).pcReadBit

theorem onlyTheBus.pcWriteBytes (a : Addr) (sp : Pad) (h : onlyTheBus s t) : onlyTheBus s (pcWriteBytes a sp t) :=
  ((((h.pcReset.perform _).perform _).perform _).perform _).perform _

theorem onlyTheBus.pcCopy (a : Addr) (h : onlyTheBus s t) : onlyTheBus s (pcCopy a t) := by
  have command := (h.pcReset.perform (.select a)).perform (.writeByte t.params.wire.copyScratch)
  unfold Machine.pcCopy
  dsimp only
  split
  · exact ((command.busSetPullup true).delayFor _).busSetPullup false
  · exact command

theorem onlyTheBus.pcWritePad (a : Addr) (sp : Pad) (h : onlyTheBus s t) : onlyTheBus s (pcWritePad a sp t) := by
  unfold Machine.pcWritePad
  split
  · exact (h.pcWriteBytes a sp).pcCopy a
  · exact h.pcWriteBytes a sp

theorem onlyTheBus.pcGetRes (a : Addr) (h : onlyTheBus s t) : onlyTheBus s (pcGetRes a t) := by
  unfold Machine.pcGetRes
  split
  · exact h
  · exact h.pcReadPad a

theorem onlyTheBus.pcSetRes (a : Addr) (r : Resolution) (h : onlyTheBus s t) : onlyTheBus s (pcSetRes a r t) := by
  unfold Machine.pcSetRes
  split
  · exact h
  · split
    · exact ((h.pcReadPad a).pcWritePad a _).pcGetRes a
    · exact h.pcReadPad a

/-! ### Searches -/

theorem onlyTheBus.pcLookup (k : Nat) (h : onlyTheBus s t) : onlyTheBus s (pcLookup k t).2 := by
  fun_induction Machine.pcLookup k t with
  | case3 _ _ _ _ _ ih => exact ih h.pcSearchNext
  | _ => exact h.pcSearchNext

theorem onlyTheBus.pcCount {fuel n m : Nat} (h : onlyTheBus s t) (count : pcCount fuel n t = some (m, u)) :
    onlyTheBus s u := by
  induction fuel generalizing n t with
  | zero => cases count
  | succ fuel ih =>
    unfold Machine.pcCount at count
    split at count
    · cases count
      exact h.pcSearchNext
    · exact ih h.pcSearchNext count

theorem onlyTheBus.pcSurvey {fuel : Nat} {v w : Survey} (h : onlyTheBus s t)
    (survey : pcSurvey fuel v t = some (w, u)) : onlyTheBus s u := by
  induction fuel generalizing v t with
  | zero => cases survey
  | succ fuel ih =>
    unfold Machine.pcSurvey at survey
    split at survey
    · cases survey
      exact h.pcSearchNext
    · split at survey
      · exact ih ((h.pcSearchNext.pcReadPower _).pcGetRes _) survey
      · exact ih h.pcSearchNext survey

theorem onlyTheBus.pcSetAll {r : Resolution} {fuel : Nat} {b c : Bool} (h : onlyTheBus s t)
    (set : pcSetAll r fuel b t = some (c, u)) : onlyTheBus s u := by
  induction fuel generalizing b t with
  | zero => cases set
  | succ fuel ih =>
    unfold Machine.pcSetAll at set
    split at set
    · cases set
      exact h.pcSearchNext
    · split at set
      · exact ih (h.pcSearchNext.pcSetRes _ r) set
      · exact ih h.pcSearchNext set

/-! ### Conversion -/

theorem onlyTheBus.pcWaitEnd (h : onlyTheBus s t) : onlyTheBus s (pcWaitEnd t) := by
  unfold Machine.pcWaitEnd
  split
  · exact h.busSetPullup false
  · exact h

theorem onlyTheBus.pcPoll {t₀ d fuel : Nat} (h : onlyTheBus s t) (poll : pcPoll t₀ d fuel t = some u) :
    onlyTheBus s u := by
  induction fuel generalizing t with
  | zero => cases poll
  | succ fuel ih =>
    unfold Machine.pcPoll at poll
    split at poll
    · cases poll
      exact h.pcReadBit
    · split at poll
      · cases poll
        exact h.pcReadBit.readClock
      · exact ih h.pcReadBit.readClock poll

theorem onlyTheBus.pcWaitConv {fuel d : Nat} (h : onlyTheBus s t) (wait : pcWaitConv fuel d t = some u) :
    onlyTheBus s u := by
  unfold Machine.pcWaitConv at wait
  split at wait
  · obtain ⟨v, poll, rfl⟩ := Option.map_eq_some_iff.mp wait
    exact (h.readClock.pcPoll poll).pcWaitEnd
  · cases wait
    exact (h.delayFor d).pcWaitEnd

theorem onlyTheBus.pcConvTail {fuel d : Nat} (h : onlyTheBus s t) (tail : pcConvTail fuel d t = some u) :
    onlyTheBus s u := by
  have powered : onlyTheBus s (if t.status.parasite then Machine.busSetPullup true t else t) := by
    split
    · exact h.busSetPullup true
    · exact h
  unfold Machine.pcConvTail at tail
  dsimp only at tail
  split at tail
  · exact powered.pcWaitConv tail
  · cases tail
    exact powered

/-! ### The alarm search -/

theorem onlyTheBusAndCursor.emitCallback (v : Byte) (a : Addr) (h : onlyTheBusAndCursor s t) :
    onlyTheBusAndCursor s (emitCallback v a t) := h.trans rfl

theorem onlyTheBusAndCursor.pcAlarmBits {n i : Nat} {last : Int} {done : Bool} (h : onlyTheBusAndCursor s t) :
    onlyTheBusAndCursor s (pcAlarmBits n i last done t).2 := by
  induction n generalizing i last done t with
  | zero => exact h.trans rfl
  | succ n ih =>
    unfold Machine.pcAlarmBits
    dsimp only
    split
    · exact h.trans rfl
    · exact ih (h.trans rfl)

theorem onlyTheBusAndCursor.pcAlarmSearch (h : onlyTheBusAndCursor s t) :
    onlyTheBusAndCursor s (pcAlarmSearch t).2 := by
  unfold Machine.pcAlarmSearch
  split
  · exact h
  · split
    · exact pcAlarmBits (h.trans rfl)
    · exact h.trans rfl

theorem onlyTheBusAndCursor.pcDrain {v : Byte} {fuel : Nat} {b c : Bool} (h : onlyTheBusAndCursor s t)
    (drain : pcDrain v fuel b t = some (c, u)) : onlyTheBusAndCursor s u := by
  induction fuel generalizing b t with
  | zero => cases drain
  | succ fuel ih =>
    have search := h.pcAlarmSearch
    unfold Machine.pcDrain at drain
    split at drain
    next _ answer =>
      rw [answer] at search
      cases drain
      exact search
    next _ _ answer =>
      rw [answer] at search
      split at drain
      · exact ih (search.emitCallback v _) drain
      · exact ih search drain

end

/-- Settles O23: each routine's frame is the composition of its primitives' frames. -/
theorem routinesTouchOnlyTheBus : Obligations.RoutinesTouchOnlyTheBus := by
  intro s
  have same := onlyTheBus.refl s
  have sameCursor := onlyTheBusAndCursor.refl s
  exact ⟨fun a => ⟨same.pcReadPad a, same.pcReadPower a, same.pcGetRes a, (same.pcReset.perform _).perform _⟩,
    fun a sp => same.pcWritePad a sp,
    fun a r => same.pcSetRes a r,
    fun idx => (same.perform _).pcLookup idx,
    fun _ _ _ _ => same.pcCount,
    fun _ _ _ _ => same.pcSurvey,
    fun _ _ _ _ _ => same.pcSetAll,
    (same.pcReset.perform _).perform _,
    fun _ _ _ => same.pcConvTail,
    sameCursor.pcAlarmSearch,
    fun _ _ _ _ _ => sameCursor.pcDrain⟩

end Sys2Proof.Machine
end

section
/-! # The scratchpad codec (41_scratchpad.md R180 to R200)

Each command's lines run as its pseudocode says (Laws/Routines.lean, Laws/Loops.lean), so a statement is that run within
the quantum (`runCommand_readPad`, `runCommand_rewritePad`, `Runs.done`) and what the command's last program point does
with its result. Two statements bear the name of a function of the model, and stand under `Scratchpad`. -/

namespace Sys2Proof.Machine

/-! ### READ_SP and READ_POWER -/

/-- Settles O36, by the run of `ReadSPCore`. -/
theorem readSpResult : Obligations.ReadSpResult := by
  refine ⟨rfl, fun s roomy => ?_⟩
  refine runCommand_readPad (t := setResult true { pcReadPad s.addrIn s with spBuf := padAnswer s })
    roomy fun l k pad => ?_
  rw [runAct, actReadSpOut, begin_loc, pad]
  rfl

theorem pcReadPower_trace (a : Addr) (s : State) : (pcReadPower a s).trace = s.trace ++ (pendingRelease s ++
    ([.reset (presenceAnswer s), .select a, .writeByte s.params.wire.readPower,
      .readBit (bitAnswer s)] : List Event)) := by
  have bit : bitAnswer (pcReset s) = bitAnswer s := rfl
  simp [pcReadPower, bit]

/-- `ReadPowerCore(a)` (R185) as one update of the state. -/
theorem pcReadPower_eq (a : Addr) (s : State) : pcReadPower a s = { s with
    status.pullupOn := false
    trace := s.trace ++ (pendingRelease s ++
      ([.reset (presenceAnswer s), .select a, .writeByte s.params.wire.readPower,
        .readBit (bitAnswer s)] : List Event))
    env.presence := restAnswers s.env.presence
    env.bits := restAnswers s.env.bits } := by
  rw [← pcReadPower_trace]
  exact (onlyTheBus.refl s).pcReadPower a

/-- Settles O42, by the run of `ReadPowerCore`. -/
theorem readPowerResult : Obligations.ReadPowerResult := by
  refine ⟨rfl, fun s roomy => ?_⟩
  have power := runs_readPower .readPower Locals.start s s.addrIn s.params rfl
  have point : Runs .readPower 1 [.act .readPowerOut]
      { Locals.start with present := presenceAnswer s, b := bitAnswer s } (pcReadPower s.addrIn s)
      { Locals.start with present := presenceAnswer s, b := bitAnswer s }
      (setResult (!bitAnswer s) (pcReadPower s.addrIn s)) := Runs.one fun _ => rfl
  have run := (power.append point (List.cons_ne_nil _ _)).done (le_trans (by decide) roomy)
  rw [pcReadPower_eq] at run
  exact run

/-! ### The thresholds -/

/-- Settles O43, by the run of `ReadSPCore`. -/
theorem getThresholdResults : Obligations.GetThresholdResults := by
  refine ⟨rfl, rfl, fun s roomy =>
    ⟨runCommand_readPad roomy fun l k pad => ?_, runCommand_readPad roomy fun l k pad => ?_⟩⟩
  · rw [runAct, actGetThOut, begin_loc, pad]
    rw [apply_ite (beginCommand .getTh l k)]
    rfl
  · rw [runAct, actGetTlOut, begin_loc, pad]
    rw [apply_ite (beginCommand .getTl l k)]
    rfl

/-- The end of a command that writes a scratchpad (R181): `RESULT` is 1. -/
theorem runs_writeSp_result (i : Instr) (l : Locals) (t : State) (a : Addr) :
    Runs i 14 [.act (.writeSp a), .act (.result true)] l t { l with present := writePadPresent a t }
      (setResult true (pcWritePad a l.sp t)) :=
  (runs_writeSp a).cons (ls' := [.act (.result true)]) (Runs.one fun _ => rfl) (List.cons_ne_nil _ _)

/-- A command that reads the pad of `ADDR_IN` and, if its CRC is right, writes `sp` back (R198, R199). -/
theorem runCommand_rewritePad {i : Instr} {x : Act} {s : State} {sp : Pad} (roomy : Roomy s)
    (e : ∀ l k, l.sp = padAnswer s → runAct x (beginCommand i l k (pcReadPad s.addrIn s)) =
      if padCrcOk s.params (padAnswer s) then
        beginCommand i { l with sp := sp } (([.act (.writeSp s.addrIn), .act (.result true)] : List Line) ++ k)
          (pcReadPad s.addrIn s)
      else beginCommand i l k (setResult false (pcReadPad s.addrIn s))) :
    runCommand i Locals.start (readPadLines s.params s.addrIn ++ [.act x]) s = .next (finishCommand
      (if padCrcOk s.params (padAnswer s) then setResult true (pcWritePad s.addrIn sp (pcReadPad s.addrIn s))
      else setResult false (pcReadPad s.addrIn s))) := by
  have pad := runs_readPad i Locals.start s s.addrIn s.params rfl
  have e (k : List Line) := e { Locals.start with present := presenceAnswer s, sp := padAnswer s } k rfl
  split
  next right =>
    simp only [right, if_true] at e
    have write := Runs.line (x := .act x) e (runs_writeSp_result i _ _ s.addrIn) (List.cons_ne_nil _ _)
    exact (pad.append write (List.cons_ne_nil _ _)).done (le_trans (by decide) roomy)
  next wrong =>
    simp only [wrong] at e
    exact (pad.append (Runs.one (x := .act x) e) (List.cons_ne_nil _ _)).done (le_trans (by decide) roomy)

/-- Settles O44, by the read and the write of the pad (`runCommand_rewritePad`). -/
theorem setThresholdResults : Obligations.SetThresholdResults := by
  refine ⟨rfl, rfl, fun s roomy =>
    ⟨runCommand_rewritePad roomy fun l k pad => ?_, runCommand_rewritePad roomy fun l k pad => ?_⟩⟩
  · rw [runAct, actSetThPad, begin_loc, pad]
    rfl
  · rw [runAct, actSetTlPad, begin_loc, pad]
    rfl

/-! ### WRITE_SP -/

section
variable (a : Addr) (sp : Pad) (s : State)

@[simp] theorem pcWriteBytes_env : (pcWriteBytes a sp s).env = (pcReset s).env := by simp [pcWriteBytes]

@[simp] theorem pcWriteBytes_clock : (pcWriteBytes a sp s).clock = s.clock := by simp [pcWriteBytes]

@[simp] theorem pendingRelease_pcWriteBytes : pendingRelease (pcWriteBytes a sp s) = [] := by
  simp [pcWriteBytes]

@[simp] theorem tickAnswer_pcWriteBytes : tickAnswer (pcWriteBytes a sp s) = tickAnswer s := by
  simp [tickAnswer]

/-- A second `Bus.Reset` gets the second answer to come (R89). -/
@[simp] theorem presenceAnswer_pcWriteBytes : presenceAnswer (pcWriteBytes a sp s)
    = peekAnswer Config.freePresence s.env.presence 1 := by
  rw [presenceAnswer, pcWriteBytes_env, pcReset_presence, ← answers_step, ← skipAnswers_succ, skipAnswers_zero]

/-- The history of the transfer of R181. -/
theorem pcWriteBytes_trace : (pcWriteBytes a sp s).trace = s.trace ++ (pendingRelease s ++
    ([.reset (presenceAnswer s), .select a, .writeByte s.params.wire.writeScratch, .writeByte sp[2], .writeByte sp[3],
      .writeByte sp[4]] : List Event)) := by
  simp [pcWriteBytes]

/-- The history of the copy of R181. -/
theorem pcCopy_trace : (pcCopy a s).trace = s.trace ++ (pendingRelease s ++
    (([.reset (presenceAnswer s), .select a, .writeByte s.params.wire.copyScratch] : List Event) ++
      (if s.status.parasite then [.setPullup true, .delay s.params.tCopy, .setPullup false]
       else [] : List Event))) := by
  unfold pcCopy
  cases s.status.parasite <;> simp

/-- The history of `WriteSPCore` (R181). -/
theorem pcWritePad_trace : (pcWritePad a sp s).trace = s.trace ++ (pendingRelease s ++
    (([.reset (presenceAnswer s), .select a, .writeByte s.params.wire.writeScratch, .writeByte sp[2], .writeByte sp[3],
      .writeByte sp[4]] : List Event) ++
     (if wantsCopy s a then
       ([.reset (peekAnswer Config.freePresence s.env.presence 1), .select a,
         .writeByte s.params.wire.copyScratch] : List Event) ++
       (if s.status.parasite then [.setPullup true, .delay s.params.tCopy, .setPullup false] else [] : List Event)
     else [] : List Event))) := by
  unfold pcWritePad
  cases wantsCopy s a <;> simp [pcCopy_trace, pcWriteBytes_trace]

/-- The copy's `Delay` lasts at least `T_COPY` (R96, R181). -/
theorem pcCopy_clock : (pcCopy a s).clock =
    if s.status.parasite then s.clock + s.params.tCopy + tickAnswer s else s.clock := by
  unfold pcCopy
  split <;> rfl

theorem pcWritePad_clock : (pcWritePad a sp s).clock =
    if wantsCopy s a && s.status.parasite then s.clock + s.params.tCopy + tickAnswer s else s.clock := by
  unfold pcWritePad
  cases wantsCopy s a <;> simp [pcCopy_clock]

end

/-- Settles O37, by the run of `WriteSPCore` (`runs_writeSp_result`), its history (`pcWritePad_trace`) and its
clock (`pcWritePad_clock`). -/
theorem writeSpResult : Obligations.WriteSpResult := by
  refine ⟨rfl, fun s roomy => ⟨?_, fun released => ⟨?_, ?_, fun copy parasite => ?_⟩⟩⟩
  · exact (runs_writeSp_result .writeSp (localsWithPad s) s s.addrIn).done (le_trans (by decide) roomy)
  · have notPending : pendingRelease s = [] := by simp [pendingRelease, released]
    rw [pcWritePad_trace, notPending]
    rfl
  · rw [pcWritePad_clock]
    split <;> omega
  · rw [pcWritePad_clock, copy, parasite]
    exact Nat.le_add_right _ _

/-! ### The resolution of a configuration byte (R182) -/

theorem mem_resolutions (r : Resolution) : r ∈ [Resolution.r9, .r10, .r11, .r12] := by
  cases r <;> decide

theorem perRes_injective {m : PerRes Byte} (ok : resMaskOk m = true) : Function.Injective (perRes m) := by
  intro q r same
  have distinct : ([Resolution.r9, .r10, .r11, .r12].map (perRes m)).Nodup := of_decide_eq_true ok
  exact List.inj_on_of_nodup_map distinct (mem_resolutions q) (mem_resolutions r) same

theorem perRes_of_resOf {p : Params} {c : Byte} {r : Resolution} (h : resOf p c = some r) : perRes p.resMask r = c := by
  simpa using List.find?_some h

/-- A byte means the one resolution whose mask it is (R182). -/
theorem resOf_eq_some_iff {p : Params} {c : Byte} {r : Resolution} (ok : resMaskOk p.resMask = true) :
    resOf p c = some r ↔ c = perRes p.resMask r := by
  refine ⟨fun h => (perRes_of_resOf h).symm, fun mask => ?_⟩
  cases found : resOf p c with
  | some q => rw [perRes_injective ok ((perRes_of_resOf found).trans mask)]
  | none =>
    have noMask := List.find?_eq_none.mp found r (mem_resolutions r)
    exact absurd (beq_iff_eq.mpr mask.symm) noMask

/-! ### GET_RES -/

/-- The run of `GetResCore` (R183) and what GET_RES writes of its result (R192). -/
theorem exec_getRes {s : State} (roomy : Roomy s) : exec .getRes s = .next (finishCommand
    (setResult (getResResult s.addrIn s).isSome
      { pcGetRes s.addrIn s with
        resOut := resOutByte (pcGetRes s.addrIn s).params (getResResult s.addrIn s) })) := by
  have core := runs_getRes (i := .getRes) (l := Locals.start) (t := s) s.addrIn
  have point : Runs .getRes 1 [.act .getResOut] (getResLocals s.addrIn Locals.start s) (pcGetRes s.addrIn s)
      (getResLocals s.addrIn Locals.start s) (setResult (getResResult s.addrIn s).isSome
        { pcGetRes s.addrIn s with
          resOut := resOutByte (pcGetRes s.addrIn s).params (getResResult s.addrIn s) }) := by
    refine Runs.one fun k => ?_
    rw [line_act, runAct, actGetResOut, begin_loc, getResLocals_res]
    rfl
  exact (core.cons point (List.cons_ne_nil _ _)).done (le_trans (by decide) roomy)

/-- Settles O38, by the run of `GetResCore` (`exec_getRes`) and R182 (`resOf_eq_some_iff`). -/
theorem Scratchpad.getResResult : Obligations.GetResResult := by
  refine ⟨rfl, fun p c ok => ⟨fun r => resOf_eq_some_iff ok, fun noMask => ?_⟩,
    fun s roomy => (exec_getRes roomy).trans ?_⟩
  · exact Option.eq_none_iff_forall_ne_some.mpr fun r h => noMask r ((resOf_eq_some_iff ok).mp h)
  · unfold Machine.getResResult pcGetRes
    cases fixedRes s.params s.addrIn with
    | some r => rfl
    | none =>
      unfold resOfPad
      dsimp only
      split
      · cases resOf s.params (padAnswer s)[4] <;> rfl
      · rfl

/-! ### SET_RES -/

/-- The run of `SetResCore` (R184, R193). -/
theorem exec_setRes {s : State} (roomy : Roomy s) : exec .setRes s = .next (finishCommand
    (setResult (setResResult s.addrIn (clampRes s.arg.toNat) s) (pcSetRes s.addrIn (clampRes s.arg.toNat) s))) := by
  obtain ⟨l, ok, _, core⟩ := runs_setRes (i := .setRes) (l := Locals.start) (t := s) s.addrIn (clampRes s.arg.toNat)
  rw [← ok]
  exact (core.cons (ls' := [.act .setResOut]) (Runs.one fun _ => rfl) (List.cons_ne_nil _ _)).done
    (le_trans (by decide) roomy)

theorem resOfPad_beq_some (p : Params) (sp : Pad) (r : Resolution) :
    (resOfPad p sp == some r) = (padCrcOk p sp && resOf p sp[4] == some r) := by
  unfold resOfPad
  cases padCrcOk p sp <;> rfl

/-- The clamp of a request to 9..12 (R184). -/
theorem resBits_clampRes (n : Nat) : (resBits (clampRes n) : Int) = max 9 (min 12 (n : Int)) := by
  unfold clampRes
  split_ifs <;> simp only [resBits] <;> omega

/-- Settles O39, by the run of `SetResCore` (`exec_setRes`). -/
theorem Scratchpad.setResResult : Obligations.SetResResult := by
  refine ⟨rfl, fun s roomy => ⟨(exec_setRes roomy).trans ?_, resBits_clampRes _⟩⟩
  unfold Machine.setResResult pcSetRes
  cases fixed : fixedRes s.params s.addrIn with
  | some _ => rfl
  | none =>
    cases right : padCrcOk s.params (padAnswer s) with
    | false => rfl
    | true =>
      simp only [Machine.getResResult, pcGetRes, pcRewrite_params, fixed, resOfPad_beq_some, Bool.true_and, if_true]
      rfl

/-! ### SET_RES then GET_RES -/

/-- A scratchpad read whose answers are scripted reads the script. -/
theorem padAnswer_scripted {s : State} {sp : Pad} {rest : List Byte} (script : s.env.bytes.script = sp.toList ++ rest) :
    padAnswer s = sp := by
  have answer (j : Nat) (h : j < 9) : peekAnswer Config.freeByte s.env.bytes j = sp[j] := by
    rw [peekAnswer, script, List.getElem?_append_left (by simpa using h)]
    simp [h]
  refine Vector.ext fun j h => ?_
  rw [← answer j h]
  interval_cases j <;> rfl

theorem pcReadPad_script {s : State} {sp : Pad} {rest : List Byte} (a : Addr)
    (script : s.env.bytes.script = sp.toList ++ rest) : (pcReadPad a s).env.bytes.script = rest := by
  rw [pcReadPad_bytes, skipAnswers, script]
  exact List.drop_left' (by simp)

@[simp] theorem pcCopy_bytes (a : Addr) (s : State) : (pcCopy a s).env.bytes = s.env.bytes := by
  unfold pcCopy
  split <;> rfl

@[simp] theorem pcWritePad_bytes (a : Addr) (sp : Pad) (s : State) : (pcWritePad a sp s).env.bytes = s.env.bytes := by
  unfold pcWritePad
  split <;> simp

/-- The verifying read of SET_RES, and that of GET_RES, on a device that answers with the mask of `r`. -/
theorem getResResult_scripted {s : State} {a : Addr} {sp : Pad} {r : Resolution} {rest : List Byte}
    (ok : resMaskOk s.params.resMask = true) (adjustable : fixedRes s.params a = none)
    (right : padCrcOk s.params sp = true) (mask : sp[4] = perRes s.params.resMask r)
    (script : s.env.bytes.script = sp.toList ++ rest) :
    getResResult a s = some r := by
  rw [getResResult, adjustable]
  dsimp only
  rw [padAnswer_scripted script, resOfPad, if_pos right]
  exact (resOf_eq_some_iff ok).mpr mask

/-- A device that answers three reads with a right pad, the last two with the mask of `r`, keeps `r`: SET_RES succeeds,
and a read then gives `r`. -/
theorem pcSetRes_scripted {s : State} {a : Addr} {before after : Pad} {r : Resolution} {rest : List Byte}
    (ok : resMaskOk s.params.resMask = true) (adjustable : fixedRes s.params a = none)
    (rightBefore : padCrcOk s.params before = true) (rightAfter : padCrcOk s.params after = true)
    (mask : after[4] = perRes s.params.resMask r)
    (script : s.env.bytes.script = before.toList ++ after.toList ++ after.toList ++ rest) :
    setResResult a r s = true ∧ getResResult a (pcSetRes a r s) = some r := by
  simp only [List.append_assoc] at script
  have written : (pcRewrite a r s).env.bytes.script = after.toList ++ (after.toList ++ rest) := by
    rw [pcRewrite, pcWritePad_bytes]
    exact pcReadPad_script a script
  have reads {t : State} {left : List Byte} (params : t.params = s.params)
      (answers : t.env.bytes.script = after.toList ++ left) : getResResult a t = some r := by
    rw [← params] at ok adjustable rightAfter mask
    exact getResResult_scripted ok adjustable rightAfter mask answers
  have verified : getResResult a (pcRewrite a r s) = some r := reads (pcRewrite_params s a r) written
  have right : padCrcOk s.params (padAnswer s) = true := by rw [padAnswer_scripted script, rightBefore]
  have read : pcSetRes a r s = pcReadPad a (pcRewrite a r s) := by
    simp only [pcSetRes, adjustable, right, if_true, pcGetRes, pcRewrite_params]
  refine ⟨?_, reads (left := rest) (pcSetRes_params s a r) ?_⟩
  · simp only [setResResult, adjustable, right, verified, Bool.true_and, beq_self_eq_true]
  · rw [read]
    exact pcReadPad_script a written

theorem pcGetRes_finish_trace (a : Addr) (v : Bool) (s : State) :
    (pcGetRes a (finishCommand (setResult v s))).trace = (pcGetRes a s).trace := by
  rw [pcGetRes, pcGetRes, finishCommand_params, setResult_params]
  cases fixedRes s.params a <;> rfl

/-- SET_RES and then GET_RES, where the first succeeds and the second reads `r` (R200). -/
theorem exec_setRes_getRes {s : State} {r : Resolution} (roomy : Roomy s)
    (set : setResResult s.addrIn (clampRes s.arg.toNat) s = true)
    (get : getResResult s.addrIn (pcSetRes s.addrIn (clampRes s.arg.toNat) s) = some r) :
    ∃ t u, exec .setRes s = .next t ∧ t.status.busy = false ∧ t.status.result = true ∧
      exec .getRes t = .next u ∧ u.status.busy = false ∧ u.status.result = true ∧ u.resOut = resByte r ∧
      u.trace = (pcGetRes s.addrIn (pcSetRes s.addrIn (clampRes s.arg.toNat) s)).trace := by
  have first := exec_setRes roomy
  rw [set] at first
  generalize stored : pcSetRes s.addrIn (clampRes s.arg.toNat) s = v at first get
  have address : v.addrIn = s.addrIn := by rw [← stored, pcSetRes_addrIn]
  have room : Roomy (finishCommand (setResult true v)) := by
    change 2048 ≤ v.quantum
    rwa [← stored, pcSetRes_quantum]
  have second := exec_getRes room
  have read : getResResult v.addrIn (finishCommand (setResult true v)) = some r := by rw [address]; exact get
  refine ⟨_, _, first, rfl, rfl, second, rfl, ?_, ?_, ?_⟩
  · exact congrArg Option.isSome read
  · exact congrArg (resOutByte _) read
  · rw [← address]
    exact pcGetRes_finish_trace v.addrIn true v

/-- Settles O40, by the two commands one after the other (`exec_setRes_getRes`). -/
theorem resolutionRoundTrip : Obligations.ResolutionRoundTrip := by
  refine fun s roomy ok =>
    ⟨fun before after rest adjustable rightBefore rightAfter mask script => ?_, fun r fixed => ?_⟩
  · obtain ⟨set, get⟩ := pcSetRes_scripted ok adjustable rightBefore rightAfter mask script
    obtain ⟨t, u, first, idle, result, second, idle', result', res, _⟩ := exec_setRes_getRes roomy set get
    exact ⟨t, u, first, idle, result, second, idle', result', res⟩
  · have untouched : pcSetRes s.addrIn (clampRes s.arg.toNat) s = s := by rw [pcSetRes, fixed]
    have notRead : pcGetRes s.addrIn s = s := by rw [pcGetRes, fixed]
    have set : setResResult s.addrIn (clampRes s.arg.toNat) s = true := by rw [setResResult, fixed]
    have get : getResResult s.addrIn s = some r := by rw [getResResult, fixed]
    have run := exec_setRes_getRes (r := r) roomy set (by rw [untouched, get])
    rwa [untouched, notRead] at run

/-! ### SET_GRES -/

/-- Settles O41, by the run of the loop (`runs_setAll`) and its frame (`onlyTheBus.pcSetAll`). -/
theorem setGresResult : Obligations.SetGresResult := by
  refine ⟨rfl, fun s fuel ok t set room => ⟨?_, ?_⟩⟩
  · obtain ⟨l, loop⟩ := runs_setAll (i := .setGres) (clampRes s.arg.toNat) fuel { Locals.start with allOk := true }
      _ ok t set
    have search := Runs.next (fun k => line_searchReset .setGres { Locals.start with allOk := true } k
      { s with globalRes := clampRes s.arg.toNat }) loop
    have hint := Runs.next (x := .act (.gresStart (clampRes s.arg.toNat))) (l := Locals.start) (t := s)
      (fun _ => rfl) search
    exact hint.done (by omega)
  · have frame := (onlyTheBus.refl _).pcSetAll set
    rw [frame]
    rfl

end Sys2Proof.Machine
end

section
/-! # The temperature decoder (42_decoder.md R230 to R242)

`Decode` is the sentinel or one of two formulas (`decodeTemp_cases`), so its values have a property if the sentinel and
each formula have it. The commands decode the pad at hand in one program point (`runAct_tempOut`), after the runs of
Laws/Routines.lean and Laws/Loops.lean that bring it. -/

namespace Sys2Proof.Machine

/-! ### The order of the checks (R230) -/

theorem allOnes_iff {sp : Pad} : allOnes sp = true ↔ sp = Vector.replicate 9 0xFF := by
  simp only [allOnes, List.all_eq_true, Vector.mem_toList_iff, beq_iff_eq, Vector.eq_replicate_iff]

theorem padCrcOk_iff {p : Params} {sp : Pad} :
    padCrcOk p sp = true ↔ crc8 p.crcPolyR (sp.toList.take 8) = sp[8] := beq_iff_eq

/-- `DecodeLegacy` with its test on the byte `COUNT_PER_C` itself (R231). -/
theorem decodeLegacy_eq (sp : Pad) : decodeLegacy sp =
    if sp[7] = 0x00 then (rawTemp sp).toInt * 64
    else (rawTemp sp &&& 0xFFFE#16).toInt * 64 - 32
      + (((sp[7].toNat : Int) - (sp[6].toNat : Int)) * 128).tdiv (sp[7].toNat : Int) := by
  have zero : (sp[7].toNat : Int) = 0 ↔ sp[7] = 0x00 := by
    rw [Int.natCast_eq_zero]
    exact BitVec.toNat_inj (y := 0x00)
  exact if_congr zero rfl rfl

/-- Settles O45: the model's tests are those of R230 (`allOnes_iff`, `padCrcOk_iff`), and so is the count correction's
(`decodeLegacy_eq`). -/
theorem decodeChecksInOrder : Obligations.DecodeChecksInOrder := by
  intro p a sp
  unfold decodeTemp familyOf
  refine if_congr allOnes_iff rfl (if_congr ?_ rfl ?_)
  · rw [Ne, ← padCrcOk_iff, Bool.not_eq_true]
  · cases p.family.lookup a[0] with
    | none => rfl
    | some f =>
      dsimp only
      cases f.kind with
      | legacy => exact decodeLegacy_eq sp
      | standard => rfl

/-! ### The values of the decoder (R233) -/

section
variable {p : Params} {a : Addr} {sp : Pad}

/-- A decoded value is the sentinel or the value of the formula for the family's kind (R230 to R232). -/
theorem decodeTemp_cases {P : Int → Prop} (sentinel : P p.discFp.toInt)
    (legacy : ∀ f, familyOf p a[0] = some f → f.kind = .legacy → P (decodeLegacy sp))
    (standard : ∀ f r, familyOf p a[0] = some f → f.kind = .standard → resOf p sp[4] = some r →
      P ((maskedRaw sp r).toInt * 2 ^ (7 - f.fracBits.val))) :
    P (decodeTemp p a sp) := by
  unfold decodeTemp
  split
  · exact sentinel
  · split
    · exact sentinel
    · split
      next => exact sentinel
      next f family =>
        split
        next kind => exact legacy f family kind
        next kind =>
          unfold decodeStandard
          split
          next => exact sentinel
          next r mask => exact standard f r family kind mask

/-- A pad that passes both tests decodes by the legacy formula on the legacy family (R230). -/
theorem decodeTemp_legacy {f : Family} (read : allOnes sp = false) (right : padCrcOk p sp = true)
    (family : familyOf p a[0] = some f) (kind : f.kind = .legacy) : decodeTemp p a sp = decodeLegacy sp := by
  simp [decodeTemp, read, right, family, kind]

theorem natAbs_toInt_le (x : BitVec 16) : x.toInt.natAbs ≤ 32768 := by
  have low := x.le_toInt
  have high := x.toInt_lt
  norm_num at low high
  omega

theorem decodeLegacy_natAbs_le (sp : Pad) : (decodeLegacy sp).natAbs ≤ 4194304 := by
  have raw := natAbs_toInt_le (rawTemp sp)
  have even := natAbs_toInt_le (rawTemp sp &&& 0xFFFE#16)
  have quotient := Int.natAbs_tdiv_le_natAbs (((sp[7].toNat : Int) - (sp[6].toNat : Int)) * 128) sp[7].toNat
  have perC := sp[7].isLt
  have remain := sp[6].isLt
  rw [decodeLegacy_eq]
  split <;> omega

theorem scaled_natAbs_le (x : BitVec 16) (n : Nat) : (x.toInt * 2 ^ (7 - n)).natAbs ≤ 4194304 := by
  have scale : 2 ^ (7 - n) ≤ 2 ^ 7 := Nat.pow_le_pow_right (by decide) (Nat.sub_le 7 n)
  rw [Int.natAbs_mul, Int.natAbs_pow]
  exact Nat.mul_le_mul (natAbs_toInt_le x) scale

/-- R233(a). -/
theorem decodeTemp_natAbs_le (sentinel : p.discFp = defaultParams.discFp) :
    (decodeTemp p a sp).natAbs ≤ 4194304 := by
  refine decodeTemp_cases (P := fun v => v.natAbs ≤ 4194304) ?_ ?_ ?_
  · rw [sentinel]
    decide
  · exact fun _ _ _ => decodeLegacy_natAbs_le sp
  · exact fun f r _ _ _ => scaled_natAbs_le (maskedRaw sp r) f.fracBits

/-- R233(b). -/
theorem decodeTemp_congr {a' : Addr} (code : a[0] = a'[0]) : decodeTemp p a sp = decodeTemp p a' sp := by
  unfold decodeTemp
  rw [code]

/-- A pad of the legacy family decodes to the sentinel if its register does (R233(c)). -/
theorem decodeTemp_legacy_eq_discFp {f : Family} (family : familyOf p a[0] = some f) (kind : f.kind = .legacy)
    (value : decodeLegacy sp = p.discFp.toInt) : decodeTemp p a sp = p.discFp.toInt := by
  refine decodeTemp_cases (P := (· = p.discFp.toInt)) rfl (fun _ _ _ => value) fun g r family' standard _ => ?_
  cases family.symm.trans family'
  cases kind.symm.trans standard

/-- A pad of a standard family decodes to the sentinel if its register does at the resolution its configuration byte
means, if it means one (R232, R233(c)). -/
theorem decodeTemp_standard_eq_discFp {f : Family} (family : familyOf p a[0] = some f) (kind : f.kind = .standard)
    (value : ∀ r, resOf p sp[4] = some r → (maskedRaw sp r).toInt * 2 ^ (7 - f.fracBits.val) = p.discFp.toInt) :
    decodeTemp p a sp = p.discFp.toInt := by
  refine decodeTemp_cases (P := (· = p.discFp.toInt)) rfl (fun g family' legacy => ?_) fun g r family' _ mask => ?_
  · cases family.symm.trans family'
    cases kind.symm.trans legacy
  · cases family.symm.trans family'
    exact value r mask

/-- The low four bits of -127 degrees are 0, so it is the same register at every resolution (R233(c)). -/
theorem maskedRaw_of_sentinel (raw : rawTemp sp = 0xF810#16) (r : Resolution) : maskedRaw sp r = 0xF810#16 := by
  rw [maskedRaw, raw]
  cases r <;> decide

end

theorem defaultDiscFp_toInt : defaultParams.discFp.toInt = -127 * 128 := by decide

theorem familyOf_default_standard {c : Byte} (code : c ∈ [0x28#8, 0x22#8, 0x3B#8]) :
    familyOf defaultParams c = some standardFamily := by
  fin_cases code <;> rfl

/-- Settles O46, by the bound of each formula (`decodeTemp_natAbs_le`) and its value where it meets the sentinel
(`decodeTemp_standard_eq_discFp`, `decodeTemp_legacy_eq_discFp`). -/
theorem decodeProperties : Obligations.DecodeProperties := by
  refine ⟨fun p a sp sentinel => ?bounds, fun p a a' sp => decodeTemp_congr, by decide,
    fun p a sp f r sentinel family kind frac _ _ raw => decodeTemp_standard_eq_discFp family kind fun q _ => ?standard,
    fun p a sp f sentinel family kind _ collides => decodeTemp_legacy_eq_discFp family kind ?legacy,
    padCrcOk_zeros, fun a code => ?zeroLegacy, fun a code => ?zeroStandard⟩
  case bounds =>
    have bound := decodeTemp_natAbs_le (a := a) (sp := sp) sentinel
    exact ⟨by omega, by omega, BitVec.toInt_ofInt_eq_self (by decide) (by omega) (by omega)⟩
  case standard =>
    rw [maskedRaw_of_sentinel raw, frac, sentinel]
    decide
  case legacy =>
    rw [decodeLegacy_eq, sentinel, defaultDiscFp_toInt]
    split at collides
    next noCount =>
      rw [if_pos noCount, rawTemp, collides]
      decide
    next count =>
      rw [if_neg count]
      exact collides
  case zeroLegacy =>
    have family : familyOf defaultParams a[0] = some legacyFamily := by rw [code]; rfl
    rw [decodeTemp_legacy (by decide) padCrcOk_zeros family rfl]
    decide
  case zeroStandard =>
    have noMask : resOf defaultParams (Vector.replicate 9 0x00)[4] = none := by decide
    refine decodeTemp_standard_eq_discFp (familyOf_default_standard code) rfl fun r mask => ?_
    cases noMask.symm.trans mask

/-! ### The commands (R240 to R242) -/

/-- The pad at hand, decoded into `TEMP_FP` (R240, R241, R242). -/
theorem runAct_tempOut (i : Instr) (l : Locals) (k : List Line) (t : State) (a : Addr) :
    runAct (.tempOut a) (beginCommand i l k t) =
      beginCommand i l k (writeTemp (BitVec.ofInt 32 (decodeTemp t.params a l.sp)) t) := rfl

theorem writeTemp_sentinel (t : State) :
    writeTemp t.params.discFp t = setResult false { t with tempFp := t.params.discFp } := by
  rw [writeTemp, bne_self_eq_false]

/-- What reading the pad of `a` and decoding it leaves (R241, R242). -/
def readTemp (a : Addr) (s : State) : State :=
  writeTemp (BitVec.ofInt 32 (decodeTemp s.params a (padAnswer s))) (pcReadPad a s)

theorem runs_readTemp (i : Instr) (l : Locals) (t : State) (a : Addr) :
    Runs i 13 (readPadLines t.params a ++ [.act (.tempOut a)]) l t
      { l with present := presenceAnswer t, sp := padAnswer t } (readTemp a t) :=
  (runs_readPad i l t a t.params rfl).append
    (Runs.one (x := .act (.tempOut a)) fun k => runAct_tempOut i _ k _ a) (List.cons_ne_nil _ _)

/-- Settles O47, by the program point `runAct_tempOut` and the run of the read before it (`runs_readTemp`). -/
theorem temperatureOfAPad : Obligations.TemperatureOfAPad := by
  refine ⟨rfl, rfl, fun s quantum => ?_, fun s roomy => ?_⟩
  · have run := runCommand_act (fun k => runAct_tempOut .calcTemp (localsWithPad s) k s s.addrIn) quantum
    rw [decide_not]
    exact run
  · exact (runs_readTemp .getTemp Locals.start s s.addrIn).done (le_trans (by decide) roomy)

/-- What GET_TEMP_IDX does with a lookup's result (R242). -/
def tempOfFound (found : Option Addr) (t : State) : State :=
  match found with
  | none => setResult false { t with tempFp := t.params.discFp }
  | some a => readTemp a t

theorem runs_tempIdx (l : Locals) (t : State) :
    ∃ l', Runs .getTempIdx 14 [.act .tempIdx] l t l' (tempOfFound l.found t) := by
  cases found : l.found with
  | none =>
    refine ⟨l, Runs.mono (by decide) (Runs.one fun k => ?_)⟩
    rw [line_act, runAct, actTempIdx, begin_loc, found]
    exact congrArg (beginCommand .getTempIdx l k) (writeTemp_sentinel t)
  | some a =>
    refine ⟨_, Runs.pushes (fun k => ?_) (runs_readTemp .getTempIdx l t a) (List.cons_ne_nil _ _)⟩
    rw [line_act, runAct, actTempIdx, begin_loc, found]
    rfl

theorem pcGetAddr_params (idx : Nat) (s : State) : (pcGetAddr idx s).2.params = s.params := by
  have frame : onlyTheBus s (pcGetAddr idx s).2 := ((onlyTheBus.refl s).perform _).pcLookup idx
  rw [frame]

/-- Settles O48, by the run of `GetAddrCore` and of what follows it (`runs_tempIdx`). -/
theorem getTempIdxResult : Obligations.GetTempIdxResult := by
  refine ⟨rfl, fun s roomy => ?_⟩
  have params := pcGetAddr_params s.arg.toNat s
  obtain ⟨l, point⟩ := runs_tempIdx { Locals.start with found := (pcGetAddr s.arg.toNat s).1 }
    (pcGetAddr s.arg.toNat s).2
  have index : s.arg.toNat < 256 := s.arg.isLt
  have room : 2 * (2 * s.arg.toNat + 3 + 14) ≤ s.quantum := by unfold Roomy at roomy; omega
  refine (((runs_getAddr s.arg.toNat).append point (List.cons_ne_nil _ _)).done room).trans ?_
  rcases lookup : pcGetAddr s.arg.toNat s with ⟨found, t⟩
  rw [lookup] at params
  rw [← params]
  cases found with
  | none => rfl
  | some a => rfl

end Sys2Proof.Machine
end

section
/-! # The conversion commands (43_conversion.md R260 to R272)

A conversion command writes `PHASE`, performs its start primitives (`Starts`) and ends with `ConvTail`
(`convertLines`): its whole effect is the run of these lines (`Starts.runs_convert`). The states of `PHASE` on the way
stand where the run passes between two lines (`Reaches`, `Starts.showsPhases`). A lookup that fails leaves `PHASE` alone,
line by line (`PhaseStays.line`). -/

namespace Sys2Proof.Machine

/-! ### On the way of a run -/

/-- The block comes from one state to the other in some number of its steps. -/
def Reaches (s t : State) : Prop := ∃ n, runBlock n s = t

theorem Reaches.trans {s t u : State} (h : Reaches s t) (k : Reaches t u) : Reaches s u := by
  obtain ⟨m, rfl⟩ := h
  obtain ⟨n, rfl⟩ := k
  exact ⟨m + n, runBlock_add m n s⟩

/-- Lines that run leave the block at the line after them. -/
theorem Runs.reaches {i : Instr} {m : Nat} {ls : List Line} {l l' : Locals} {t t' : State} (r : Runs i m ls l t l' t')
    (y : Line) (k : List Line) : Reaches (beginCommand i l (ls ++ y :: k) t) (beginCommand i l' (y :: k) t') := by
  obtain ⟨n, -, run⟩ := r
  exact ⟨0 + n, run 0 (y :: k)⟩

/-- A whole line leaves the block at the lines it puts in front and those after it. -/
theorem reaches_line {i : Instr} {x : Line} {l l' : Locals} {k k' : List Line} {t t' : State}
    (e : wholeLine x (beginCommand i l k t) = beginCommand i l' k' t') (more : k' ≠ []) :
    Reaches (beginCommand i l (x :: k) t) (beginCommand i l' k' t') := by
  obtain ⟨y, ys, rfl⟩ := List.exists_cons_of_ne_nil more
  obtain ⟨n, -, run⟩ := wholeLine_steps i l t x
  exact ⟨0 + n, (run 0 k).trans (by rw [e]; rfl)⟩

/-- What a running command shows where the block comes to. -/
theorem Reaches.showsPhase {u : State} {i : Instr} {l : Locals} {k : List Line} {t : State}
    (h : Reaches u (beginCommand i l k t)) : showsPhase u t.phase t.trace := by
  obtain ⟨n, run⟩ := h
  exact ⟨n, by rw [run]; exact ⟨rfl, rfl, rfl⟩⟩

theorem showsPhase.of_reaches {u v : State} {p : Phase} {h : List Event} (way : Reaches u v)
    (shows : showsPhase v p h) : showsPhase u p h := by
  obtain ⟨m, rfl⟩ := way
  obtain ⟨n, shown⟩ := shows
  exact ⟨m + n, by rw [runBlock_add]; exact shown⟩

theorem showsPhases.of_reaches {u v : State} {before started waited : List Event} (way : Reaches u v)
    (ctrl : v.ctrl = u.ctrl) (parasite : v.status.parasite = u.status.parasite)
    (shows : showsPhases v before started waited) : showsPhases u before started waited := by
  obtain ⟨requested, waiting, complete⟩ := shows
  rw [parasite] at waiting
  exact ⟨requested.of_reaches way, waiting.of_reaches way,
    fun waits => (complete (by rw [ctrl]; exact waits)).of_reaches way⟩

/-- What a command shows does not depend on the quantum (log 4). -/
theorem showsPhase.setQuantum {u : State} {p : Phase} {h : List Event} (q : Nat) (shows : showsPhase u p h) :
    showsPhase { u with quantum := q } p h := by
  obtain ⟨n, shown⟩ := shows
  exact ⟨n, by rw [runBlock_setQuantum]; exact shown⟩

theorem showsPhases.setQuantum {u : State} {before started waited : List Event} (q : Nat)
    (shows : showsPhases u before started waited) : showsPhases { u with quantum := q } before started waited := by
  obtain ⟨requested, waiting, complete⟩ := shows
  exact ⟨requested.setQuantum q, waiting.setQuantum q, fun waits => (complete waits).setQuantum q⟩

/-! ### `ConvTail` (R263 to R267) -/

/-- The pull-up decision of `ConvTail` (R263). -/
def powered (s : State) : State := if s.status.parasite then busSetPullup true s else s

theorem pcConvTail_eq (fuel d : Nat) (s : State) : pcConvTail fuel d s =
    if s.ctrl.waitEn then pcWaitConv fuel d (powered s) else some (powered s) := rfl

section
variable (p : Phase) (s : State)

theorem powered_phase : powered (withPhase p s) = withPhase p (powered s) := by
  have status : (withPhase p s).status = s.status := rfl
  unfold powered
  rw [status]
  split <;> rfl

@[simp] theorem powered_ctrl : (powered s).ctrl = s.ctrl := by unfold powered; split <;> rfl

@[simp] theorem powered_parasite : (powered s).status.parasite = s.status.parasite := by
  unfold powered; split <;> rfl

@[simp] theorem powered_clock : (powered s).clock = s.clock := by unfold powered; split <;> rfl

theorem powered_trace :
    (powered s).trace = s.trace ++ (if s.status.parasite then [.setPullup true] else [] : List Event) := by
  unfold powered
  split
  · rfl
  · rw [List.append_nil]

theorem powered_pullupOn : (powered s).status.pullupOn = (s.status.parasite || s.status.pullupOn) := by
  unfold powered
  cases s.status.parasite <;> rfl

theorem pcConvTail_phase (fuel d : Nat) :
    pcConvTail fuel d (withPhase p s) = (pcConvTail fuel d s).map (withPhase p) := by
  have ctrl : (withPhase p s).ctrl = s.ctrl := rfl
  rw [pcConvTail_eq, pcConvTail_eq, powered_phase, ctrl, pcWaitConv_phase]
  split <;> rfl

end

/-- The lines `ConvTail` still has to run once `PHASE` is Waiting (R267). -/
def afterWaiting (waitEn : Bool) (d : Nat) : List Line :=
  if waitEn then [.act (.waitConv d), .act (.setPhase .complete), .act (.setPhase .idle)]
  else [.act (.setPhase .idle)]

section
variable (i : Instr) (l : Locals) (d : Nat) (k : List Line) (t : State)

theorem line_convTail : wholeLine (.act (.convTail d)) (beginCommand i l k t) = beginCommand i l
    (((if t.status.parasite then [.setPullup true] else []) ++ [.act (.convWaiting d)]) ++ k) t := rfl

theorem line_convWaiting : wholeLine (.act (.convWaiting d)) (beginCommand i l k t) =
    beginCommand i l (afterWaiting t.ctrl.waitEn d ++ k) (withPhase .waiting t) := by
  rw [line_act, runAct, actConvWaiting, begin_ctrl, afterWaiting]
  split <;> rfl

theorem reaches_powered :
    Reaches (beginCommand i l (.act (.convTail d) :: k) t)
      (beginCommand i l (.act (.convWaiting d) :: k) (powered t)) := by
  have decides := reaches_line (line_convTail i l d k t) (by simp)
  unfold powered
  split at decides
  next parasite => rw [if_pos parasite]; exact decides.trans (reaches_line rfl (List.cons_ne_nil _ _))
  next parasite => rw [if_neg parasite]; exact decides

theorem reaches_waiting :
    Reaches (beginCommand i l (.act (.convTail d) :: k) t)
      (beginCommand i l (afterWaiting t.ctrl.waitEn d ++ k) (withPhase .waiting (powered t))) := by
  have more : afterWaiting t.ctrl.waitEn d ++ k ≠ [] := by unfold afterWaiting; split <;> exact List.cons_ne_nil _ _
  refine (reaches_powered i l d k t).trans (reaches_line ?_ more)
  rw [line_convWaiting, powered_ctrl]

/-- Where `WAIT_EN` is 1, `PHASE` is Complete once the wait is over (R261, R267). -/
theorem reaches_complete {fuel : Nat} {u : State} (waits : t.ctrl.waitEn = true) (tail : pcConvTail fuel d t = some u) :
    ∃ l', Reaches (beginCommand i l (.act (.convTail d) :: k) t)
      (beginCommand i l' (.act (.setPhase .idle) :: k) (withPhase .complete u)) := by
  rw [pcConvTail_eq, if_pos waits] at tail
  have wait : pcWaitConv fuel d (withPhase .waiting (powered t)) = some (withPhase .waiting u) := by
    rw [pcWaitConv_phase, tail]
    rfl
  obtain ⟨l', run⟩ := runs_waitConv (i := i) (l := l) fuel d _ wait
  have waiting := reaches_waiting i l d k t
  rw [waits] at waiting
  exact ⟨l', (waiting.trans (run.reaches _ _)).trans (reaches_line rfl (List.cons_ne_nil _ _))⟩

end

/-! ### The lines of a conversion command (R270 to R272) -/

/-- A conversion command from its first write of `PHASE` on: its start primitives, then `ConvTail(d)`. -/
def convertLines (start : List Line) (d : Nat) : List Line :=
  .act (.setPhase .requested) :: (start ++ [.act (.convTail d), .act (.result true)])

/-- The primitives of `start` take `t` to `v`: they release a pending pull-up (R97) and are then recorded as `events`. -/
structure Starts (start : List Line) (events : List Event) (t v : State) : Prop where
  runs : ∀ i l, ∃ l', Runs i 3 start l (withPhase .requested t) l' (withPhase .requested v)
  nonempty : start ≠ []
  frame : onlyTheBus t v
  trace : v.trace = t.trace ++ (pendingRelease t ++ events)
  clock : v.clock = t.clock
  released : v.status.pullupOn = false

/-- The broadcast start (R270). -/
theorem starts_all (t : State) :
    Starts [.reset, .writeByte t.params.wire.skipRom, .writeByte t.params.wire.convertT]
      [.reset (presenceAnswer t), .writeByte t.params.wire.skipRom, .writeByte t.params.wire.convertT] t
      (pcStartAll t) where
  runs i l := ⟨_, .next (fun k => line_reset i l k _) (.next (fun k => line_writeByte i _ k _ _)
    (.one fun k => line_writeByte i _ k _ _))⟩
  nonempty := List.cons_ne_nil _ _
  frame := (((onlyTheBus.refl t).pcReset).perform _).perform _
  trace := by simp [pcStartAll]
  clock := rfl
  released := rfl

/-- The targeted start (R271, R272). -/
theorem starts_one (a : Addr) (t : State) :
    Starts [.reset, .select a, .writeByte t.params.wire.convertT]
      [.reset (presenceAnswer t), .select a, .writeByte t.params.wire.convertT] t (pcStartOne a t) where
  runs i l := ⟨_, .next (fun k => line_reset i l k _) (.next (fun k => line_select i _ k _ _)
    (.one fun k => line_writeByte i _ k _ _))⟩
  nonempty := List.cons_ne_nil _ _
  frame := (((onlyTheBus.refl t).pcReset).perform _).perform _
  trace := by simp [pcStartOne]
  clock := rfl
  released := rfl

namespace Starts

section
variable {start : List Line} {events : List Event} {t v u : State} {fuel d : Nat}

theorem ctrl (h : Starts start events t v) : v.ctrl = t.ctrl := by rw [h.frame]

theorem parasite (h : Starts start events t v) : v.status.parasite = t.status.parasite := by rw [h.frame]

/-- A conversion command runs as its pseudocode says, and leaves `PHASE` Idle. -/
theorem runs_convert (h : Starts start events t v) (tail : pcConvTail fuel d v = some u) (i : Instr) (l : Locals) :
    ∃ l', Runs i (2 * fuel + 14) (convertLines start d) l t l' (setResult true (withPhase .idle u)) := by
  have tailRequested : pcConvTail fuel d (withPhase .requested v) = some (withPhase .requested u) := by
    rw [pcConvTail_phase, tail]
    rfl
  obtain ⟨l₁, started⟩ := h.runs i l
  obtain ⟨l₂, waited⟩ := runs_convTail (i := i) (l := l₁) fuel d _ tailRequested
  have result : Runs i 1 [.act (.result true)] l₂ (withPhase .idle u) l₂ (setResult true (withPhase .idle u)) :=
    .one fun k => rfl
  have rest := started.append (waited.cons result (List.cons_ne_nil _ _)) (List.cons_ne_nil _ _)
  have phase : Runs i 1 [.act (.setPhase .requested)] l t l (withPhase .requested t) := .one fun k => rfl
  exact ⟨l₂, .mono (by omega) (phase.cons rest (List.append_ne_nil_of_left_ne_nil h.nonempty _))⟩

/-- A conversion command shows every state of `PHASE` (R261). -/
theorem showsPhases (h : Starts start events t v) (tail : pcConvTail fuel d v = some u) (i : Instr) (l : Locals) :
    showsPhases (beginCommand i l (convertLines start d) t) t.trace v.trace u.trace := by
  have tailRequested : pcConvTail fuel d (withPhase .requested v) = some (withPhase .requested u) := by
    rw [pcConvTail_phase, tail]
    rfl
  obtain ⟨l₁, started⟩ := h.runs i l
  obtain ⟨y, ys, rfl⟩ := List.exists_cons_of_ne_nil h.nonempty
  have requested : Reaches (beginCommand i l (convertLines (y :: ys) d) t)
      (beginCommand i l (y :: ys ++ [.act (.convTail d), .act (.result true)]) (withPhase .requested t)) :=
    reaches_line rfl (List.cons_ne_nil _ _)
  have atTail := requested.trans (started.reaches (.act (.convTail d)) [.act (.result true)])
  have waiting := (atTail.trans (reaches_waiting _ _ _ _ _)).showsPhase
  refine ⟨requested.showsPhase, ?_, fun waits => ?_⟩
  · have history : (withPhase .waiting (powered (withPhase .requested v))).trace
        = v.trace ++ (if t.status.parasite then [.setPullup true] else [] : List Event) := by
      rw [powered_phase, ← h.parasite]
      exact powered_trace v
    rw [history] at waiting
    exact waiting
  · obtain ⟨l₂, complete⟩ := reaches_complete i l₁ d [.act (.result true)] (withPhase .requested v)
      ((congrArg Ctrl.waitEn h.ctrl).trans waits) tailRequested
    exact (atTail.trans complete).showsPhase

end

end Starts

/-! ### REQ_TEMPS -/

theorem exec_reqTemps {s u : State} {fuel : Nat}
    (tail : pcConvTail fuel (tWaitAll s.params s.globalRes) (pcStartAll s) = some u) (room : 4 * fuel + 32 ≤ s.quantum) :
    exec .reqTemps s = .next (finishCommand (setResult true (withPhase .idle u))) := by
  obtain ⟨_, run⟩ := (starts_all s).runs_convert tail .reqTemps Locals.start
  exact run.done (by omega)

/-- Settles O49, by the run of its lines (`exec_reqTemps`) and what the run passes (`Starts.showsPhases`). -/
theorem reqTempsResult : Obligations.ReqTempsResult := by
  refine ⟨rfl, fun s fuel u tail => ⟨exec_reqTemps tail, _, runCommand_begins rfl, ?_⟩⟩
  exact ((starts_all s).showsPhases tail .reqTemps Locals.start).setQuantum 0

/-! ### REQ_TEMP_ADDR -/

section
variable {s : State}

theorem line_reqAddr {a : Addr} (i : Instr) (l : Locals) (k : List Line) (valid : isValidAddr s.params a = true) :
    wholeLine (.act (.reqAddr a)) (beginCommand i l k s) = push (convertOneLines s a) (beginCommand i l k s) := by
  rw [line_act, runAct, actReqAddr, begin_params, if_pos valid]
  rfl

theorem exec_reqTempAddr {u : State} {fuel : Nat} (valid : isValidAddr s.params s.addrIn = true)
    (tail : pcConvTail fuel (tWaitDev s.params s.globalRes s.addrIn) (pcStartOne s.addrIn s) = some u)
    (room : 4 * fuel + 32 ≤ s.quantum) :
    exec .reqTempAddr s = .next (finishCommand (setResult true (withPhase .idle u))) := by
  obtain ⟨_, run⟩ := (starts_one s.addrIn s).runs_convert tail .reqTempAddr Locals.start
  exact (Runs.pushes (fun k => line_reqAddr _ _ k valid) run (List.cons_ne_nil _ _)).done (by omega)

/-- An invalid address fails fast (R271). -/
theorem exec_reqTempAddr_invalid (quantum : 0 < s.quantum) (invalid : isValidAddr s.params s.addrIn = false) :
    exec .reqTempAddr s = .next (finishCommand (setResult false s)) := by
  refine runCommand_act (l' := Locals.start) (fun k => ?_) quantum
  rw [runAct, actReqAddr, begin_params, invalid]
  rfl

end

/-- Settles O50, by the run of its lines (`exec_reqTempAddr`) and what the run passes (`Starts.showsPhases`). -/
theorem reqTempAddrResult : Obligations.ReqTempAddrResult := by
  refine ⟨rfl, fun s => exec_reqTempAddr_invalid, fun s fuel u valid tail =>
    ⟨exec_reqTempAddr valid tail, _, runCommand_begins rfl, ?_⟩⟩
  have begins : Reaches (beginCommand .reqTempAddr Locals.start [.act (.reqAddr s.addrIn)] s)
      (beginCommand .reqTempAddr Locals.start (convertOneLines s s.addrIn) s) :=
    reaches_line (line_reqAddr _ _ [] valid) (List.cons_ne_nil _ _)
  have shows := (starts_one s.addrIn s).showsPhases tail .reqTempAddr Locals.start
  exact (shows.of_reaches begins rfl rfl).setQuantum 0

/-! ### REQ_TEMP_IDX -/

section
variable {s t u : State} {idx : Nat} {found : Option Addr}

theorem onlyTheBus.of_pcGetAddr (lookup : pcGetAddr idx s = (found, u)) : onlyTheBus s u := by
  have frame : onlyTheBus s (pcGetAddr idx s).2 := ((onlyTheBus.refl s).perform _).pcLookup idx
  rwa [lookup] at frame

/-- The bound of a device is the same before and after the lookup. -/
theorem tWaitDev_of_pcGetAddr (lookup : pcGetAddr idx s = (found, u)) (a : Addr) :
    tWaitDev s.params s.globalRes a = tWaitDev u.params u.globalRes a := by
  rw [onlyTheBus.of_pcGetAddr lookup]

theorem runs_getAddr_of_eq (lookup : pcGetAddr idx s = (found, u)) (i : Instr) (l : Locals) :
    Runs i (2 * idx + 3) (getAddrLines idx) l s { l with found := found } u := by
  have walk := runs_getAddr (i := i) (l := l) (t := s) idx
  rwa [lookup] at walk

theorem line_reqIdx_some {a : Addr} {l : Locals} (i : Instr) (k : List Line) (t : State) (hit : l.found = some a) :
    wholeLine (.act .reqIdx) (beginCommand i l k t) = push (convertOneLines t a) (beginCommand i l k t) := by
  rw [line_act, runAct, actReqIdx, begin_loc, hit]
  rfl

theorem line_reqIdx_none {l : Locals} (i : Instr) (k : List Line) (t : State) (miss : l.found = none) :
    wholeLine (.act .reqIdx) (beginCommand i l k t) = beginCommand i l k (setResult false t) := by
  rw [line_act, runAct, actReqIdx, begin_loc, miss]
  rfl

theorem exec_reqTempIdx {a : Addr} {fuel : Nat} (lookup : pcGetAddr s.arg.toNat s = (some a, u))
    (tail : pcConvTail fuel (tWaitDev s.params s.globalRes a) (pcStartOne a u) = some t)
    (room : 4 * fuel + 4 * s.arg.toNat + 36 ≤ s.quantum) :
    exec .reqTempIdx s = .next (finishCommand (setResult true (withPhase .idle t))) := by
  rw [tWaitDev_of_pcGetAddr lookup] at tail
  obtain ⟨_, run⟩ := (starts_one a u).runs_convert tail .reqTempIdx { Locals.start with found := some a }
  have point := Runs.pushes (fun k => line_reqIdx_some .reqTempIdx k u rfl) run (List.cons_ne_nil _ _)
  exact ((runs_getAddr_of_eq lookup _ _).append point (List.cons_ne_nil _ _)).done (by omega)

theorem exec_reqTempIdx_none (roomy : Roomy s) (lookup : pcGetAddr s.arg.toNat s = (none, u)) :
    exec .reqTempIdx s = .next (finishCommand (setResult false u)) := by
  have point := Runs.one fun k => line_reqIdx_none (l := { Locals.start with found := none }) .reqTempIdx k u rfl
  have index : s.arg.toNat < 256 := s.arg.isLt
  have room : 2 * (2 * s.arg.toNat + 3 + 1) ≤ s.quantum := by unfold Roomy at roomy; omega
  exact ((runs_getAddr_of_eq lookup _ _).append point (List.cons_ne_nil _ _)).done room

theorem reqTempIdx_showsPhases {a : Addr} {fuel : Nat} (lookup : pcGetAddr s.arg.toNat s = (some a, u))
    (tail : pcConvTail fuel (tWaitDev s.params s.globalRes a) (pcStartOne a u) = some t) :
    showsPhases (beginCommand .reqTempIdx Locals.start (getAddrLines s.arg.toNat ++ [.act .reqIdx]) s)
      u.trace (pcStartOne a u).trace t.trace := by
  rw [tWaitDev_of_pcGetAddr lookup] at tail
  have walk := (runs_getAddr_of_eq lookup .reqTempIdx Locals.start).reaches (.act .reqIdx) []
  have begins : Reaches (beginCommand .reqTempIdx { Locals.start with found := some a } [.act .reqIdx] u)
      (beginCommand .reqTempIdx { Locals.start with found := some a } (convertOneLines u a) u) :=
    reaches_line (line_reqIdx_some _ [] u rfl) (List.cons_ne_nil _ _)
  have shows := (starts_one a u).showsPhases tail .reqTempIdx { Locals.start with found := some a }
  have frame := onlyTheBus.of_pcGetAddr lookup
  exact shows.of_reaches (walk.trans begins) (by rw [frame]; rfl) (by rw [frame]; rfl)

/-! ### A lookup that fails leaves `PHASE` alone -/

/-- `PHASE` stays while the block runs. -/
def PhaseStays (s : State) : Prop := ∀ n, (runBlock n s).phase = s.phase

theorem phaseStays_finish (t : State) : PhaseStays (finishCommand t) := fun n => by rw [runBlock_finish]

/-- A step of the block keeps `PHASE` where the line it runs does. -/
theorem tick_keepsPhase {x : Line} {rest : List Line} (todo : s.seq.todo = x :: rest)
    (keeps : ∀ t, (runLine x t).phase = t.phase) : (tick s).phase = s.phase := by
  by_cases due : releaseDue x s = true
  · rw [tick_release todo due]
    rfl
  · rw [tick_line todo due, settle_phase, keeps]

/-- `PHASE` stays along a line that keeps it, and then along what follows. -/
theorem PhaseStays.line {i : Instr} {x : Line} {l l' : Locals} {k k' : List Line}
    (keeps : ∀ t, (runLine x t).phase = t.phase)
    (e : wholeLine x (beginCommand i l k s) = beginCommand i l' k' t) (same : t.phase = s.phase)
    (after : PhaseStays (settle (beginCommand i l' k' t))) : PhaseStays (beginCommand i l (x :: k) s) := by
  obtain ⟨d, few, run⟩ := wholeLine_steps i l s x
  intro n
  by_cases whole : d ≤ n
  · obtain ⟨m, rfl⟩ := Nat.exists_eq_add_of_le' whole
    rw [run, e, after, settle_phase]
    exact same
  · obtain rfl | rfl : n = 0 ∨ n = 1 := by omega
    · rfl
    · rw [runBlock_succ_busy 0 _ rfl]
      exact tick_keepsPhase rfl keeps

theorem runLine_getAddrFound_phase (j : Nat) (s : State) : (runLine (.act (.getAddrFound j)) s).phase = s.phase :=
  (actGetAddrFound_quiet s (i := .getAddr) List.mem_cons_self).phase_eq

theorem runLine_reqIdx_phase (s : State) : (runLine (.act .reqIdx) s).phase = s.phase := by
  change (actReqIdx s).phase = s.phase
  unfold actReqIdx
  split <;> rfl

theorem reqIdx_none_phaseStays {i : Instr} {l : Locals} (miss : l.found = none) (t : State) :
    PhaseStays (beginCommand i l [.act .reqIdx] t) :=
  .line runLine_reqIdx_phase (line_reqIdx_none i [] t miss) rfl (phaseStays_finish _)

/-- The walk of R145 ends without an address where an answer is none, or none that is valid. -/
theorem line_getAddrFound_stops {l : Locals} (i : Instr) (j : Nat) (k : List Line) (t : State)
    (stops : ∀ a, l.found = some a → isValidAddr t.params a = false) :
    wholeLine (.act (.getAddrFound j)) (beginCommand i l k t) = beginCommand i { l with found := none } k t := by
  change actGetAddrFound j (beginCommand i l k t) = _
  unfold actGetAddrFound
  split
  next miss => rw [← miss]; rfl
  next a hit => exact if_neg (Bool.eq_false_iff.mp (stops a hit))
  next a _ hit => exact if_neg (Bool.eq_false_iff.mp (stops a hit))

theorem line_getAddrFound_goesOn {l : Locals} {a : Addr} (i : Instr) (j : Nat) (k : List Line) (t : State)
    (hit : l.found = some a) (valid : isValidAddr t.params a = true) :
    wholeLine (.act (.getAddrFound (j + 1))) (beginCommand i l k t)
      = beginCommand i l (.searchNext :: .act (.getAddrFound j) :: k) t := by
  change actGetAddrFound (j + 1) (beginCommand i l k t) = _
  unfold actGetAddrFound
  rw [begin_loc, hit]
  exact if_pos valid

/-- A walk that fails, after its next answer (R145, R272). -/
theorem lookup_none_phaseStays {i : Instr} {l : Locals} {j : Nat} (fails : (pcLookup j t).1 = none) :
    PhaseStays (beginCommand i { l with found := foundAnswer t } [.act (.getAddrFound j), .act .reqIdx]
      (pcSearchNext t)) := by
  have stop (j : Nat) (t : State) (l : Locals)
      (stops : ∀ a, foundAnswer t = some a → isValidAddr t.params a = false) :
      PhaseStays (beginCommand i { l with found := foundAnswer t } [.act (.getAddrFound j), .act .reqIdx]
        (pcSearchNext t)) :=
    .line (runLine_getAddrFound_phase j) (line_getAddrFound_stops i j _ _ stops) rfl (reqIdx_none_phaseStays rfl _)
  fun_induction pcLookup j t generalizing l with
  | case1 j t answer => exact stop j t l fun a hit => by cases answer.symm.trans hit
  | case2 t a answer valid => cases fails
  | case3 t a answer valid j ih =>
    refine .line (runLine_getAddrFound_phase _) (line_getAddrFound_goesOn i j _ _ answer valid) rfl ?_
    exact .line (fun _ => rfl) (line_searchNext i _ _ _) rfl (ih fails)
  | case4 j t a answer invalid =>
    refine stop j t l fun b hit => ?_
    obtain rfl : a = b := Option.some.inj (answer.symm.trans hit)
    exact Bool.eq_false_iff.mpr invalid

theorem reqTempIdx_none_phaseStays (fails : (pcGetAddr s.arg.toNat s).1 = none) :
    PhaseStays (beginCommand .reqTempIdx Locals.start (getAddrLines s.arg.toNat ++ [.act .reqIdx]) s) := by
  refine .line (fun _ => rfl) (line_searchReset _ _ _ s) rfl ?_
  exact .line (fun _ => rfl) (line_searchNext _ _ _ _) rfl (lookup_none_phaseStays fails)

end

/-- Settles O51, by the run of its lines (`exec_reqTempIdx`), what the run passes (`reqTempIdx_showsPhases`) and, where
the lookup fails, the walk line by line (`reqTempIdx_none_phaseStays`). -/
theorem reqTempIdxResult : Obligations.ReqTempIdxResult := by
  refine ⟨rfl, fun s u lookup => ⟨fun roomy => exec_reqTempIdx_none roomy lookup, _, runCommand_begins rfl, fun n => ?_⟩,
    fun s u a fuel t lookup tail => ⟨fun room => exec_reqTempIdx lookup tail ?_, _, runCommand_begins rfl, ?_⟩⟩
  · have stays := reqTempIdx_none_phaseStays (congrArg Prod.fst lookup)
    exact (congrArg State.phase (runBlock_setQuantum n 0 _)).trans (stays n)
  · have index : s.arg.toNat < 256 := s.arg.isLt
    omega
  · exact (reqTempIdx_showsPhases lookup tail).setQuantum 0

end Sys2Proof.Machine
end

section
/-! # The wait of a conversion command (43_conversion.md R262 to R268)

Without a poll the wait is one `Delay` (`pcConvTail_blocking`) or none (`pcConvTail_disabled`), so each conversion
command ends in a state that can be written out (`Starts.waitsOut`, `Starts.powered_trace`). The lengths of the waits are
ceilings (`isCeil_scaleUp`), and the broadcast bound is the largest of them because a ceiling grows with its scale
(`scaleUp_le_scaleUp`). -/

namespace Sys2Proof.Machine

/-! ### The wait without a poll (R263, R264, R266) -/

section
variable {d fuel : Nat} {s : State}

theorem pcConvTail_blocking (waits : s.ctrl.waitEn = true) (noPoll : s.ctrl.pollEn = false ∨ s.status.parasite = true) :
    pcConvTail fuel d s = some (pcWaitEnd (delayFor d (powered s))) := by
  have blocks : ¬ ((powered s).ctrl.pollEn && !(powered s).status.parasite) = true := by
    rw [powered_ctrl, powered_parasite]
    obtain poll | parasite := noPoll
    · simp [poll]
    · simp [parasite]
  rw [pcConvTail_eq, if_pos waits, pcWaitConv, if_neg blocks]

theorem pcConvTail_disabled (waits : s.ctrl.waitEn = false) : pcConvTail fuel d s = some (powered s) := by
  rw [pcConvTail_eq, waits]
  rfl

@[simp] theorem pcWaitEnd_pullupOn (s : State) : (pcWaitEnd s).status.pullupOn = false := by
  unfold pcWaitEnd
  split
  next => rfl
  next off => exact Bool.eq_false_iff.mpr off

@[simp] theorem pcWaitEnd_clock (s : State) : (pcWaitEnd s).clock = s.clock := by unfold pcWaitEnd; split <;> rfl

theorem pcWaitEnd_trace (s : State) : (pcWaitEnd s).trace = s.trace ++ pendingRelease s := by
  unfold pcWaitEnd pendingRelease
  split
  · rfl
  · rw [List.append_nil]

/-- The `Delay` of a blocking wait, with the pull-up around it under parasite power (R263, R264). -/
theorem blockingWait_trace (released : s.status.pullupOn = false) :
    (pcWaitEnd (delayFor d (powered s))).trace = s.trace ++ waitEvents s.status.parasite d := by
  rw [pcWaitEnd_trace, delayFor_trace, powered_trace, pendingRelease, delayFor_pullupOn, powered_pullupOn, released,
    waitEvents]
  cases s.status.parasite <;> simp

end

namespace Starts

section
variable {start : List Line} {events : List Event} {t v : State} {d : Nat}

/-- What a conversion command leaves after a blocking wait. -/
theorem waitsOut (h : Starts start events t v) :
    waitsOut d events t (finishCommand (setResult true (withPhase .idle (pcWaitEnd (delayFor d (powered v)))))) := by
  refine ⟨rfl, rfl, rfl, pcWaitEnd_pullupOn _, ?_, ?_⟩
  · calc t.clock + d
        ≤ t.clock + d + tickAnswer (powered v) := Nat.le_add_right _ _
      _ = (pcWaitEnd (delayFor d (powered v))).clock := by
        rw [pcWaitEnd_clock, delayFor_clock, powered_clock, h.clock]
  · calc (pcWaitEnd (delayFor d (powered v))).trace
        = v.trace ++ waitEvents v.status.parasite d := blockingWait_trace h.released
      _ = t.trace ++ (pendingRelease t ++ events ++ waitEvents t.status.parasite d) := by
        rw [h.trace, h.parasite, List.append_assoc]

/-- Where a conversion command blocks, its tail ends so. -/
theorem tail_blocking (h : Starts start events t v) (waits : t.ctrl.waitEn = true)
    (noPoll : t.ctrl.pollEn = false ∨ t.status.parasite = true) :
    pcConvTail 0 d v = some (pcWaitEnd (delayFor d (powered v))) :=
  pcConvTail_blocking (by rw [h.ctrl]; exact waits) (by rw [h.ctrl, h.parasite]; exact noPoll)

theorem tail_disabled (h : Starts start events t v) (waits : t.ctrl.waitEn = false) :
    pcConvTail 0 d v = some (powered v) :=
  pcConvTail_disabled (by rw [h.ctrl]; exact waits)

/-- After the start the pull-up is on under parasite power only (R97, R263). -/
theorem powered_pullupOn (h : Starts start events t v) : (powered v).status.pullupOn = t.status.parasite := by
  rw [Machine.powered_pullupOn, h.released, h.parasite, Bool.or_false]

theorem powered_clock (h : Starts start events t v) : (powered v).clock = t.clock := by
  rw [Machine.powered_clock, h.clock]

theorem powered_trace (h : Starts start events t v) : (powered v).trace =
    t.trace ++ (pendingRelease t ++ events ++ (if t.status.parasite then [.setPullup true] else [] : List Event)) := by
  rw [Machine.powered_trace, h.trace, h.parasite, List.append_assoc]

end

end Starts

/-- Settles O53, by the runs of the commands with no wait (`Starts.tail_disabled`). -/
theorem disabledWaitLeavesThePullup : Obligations.DisabledWaitLeavesThePullup := by
  refine ⟨fun s roomy waits => ⟨?_, fun valid => ?_⟩, fun s fuel d waits => pcConvTail_disabled waits,
    fun s e on => ⟨?_, rfl⟩⟩
  · have starts := starts_all s
    exact ⟨_, exec_reqTemps (starts.tail_disabled waits) (le_trans (by decide) roomy), rfl, rfl, rfl,
      starts.powered_pullupOn, starts.powered_clock, starts.powered_trace⟩
  · have starts := starts_one s.addrIn s
    exact ⟨_, exec_reqTempAddr valid (starts.tail_disabled waits) (le_trans (by decide) roomy), rfl, rfl, rfl,
      starts.powered_pullupOn, starts.powered_clock, starts.powered_trace⟩
  · have pending : pendingRelease s = [.setPullup false] := if_pos on
    rw [perform, pending]
    rfl

/-! ### The lengths of the waits (R262) -/

theorem isCeil_scaleUp (t : Nat) {c : Scale} (positive : 0 < c.den) : isCeil t c (scaleUp t c) := by
  have least (m : Nat) : scaleUp t c ≤ m ↔ t * c.num ≤ m * c.den := by
    rw [scaleUp, ← Nat.ceilDiv_eq_add_pred_div, ceilDiv_le_iff_le_mul positive, Nat.mul_comm c.den]
  exact ⟨(least _).mp le_rfl, fun m => (least m).mpr⟩

/-- A ceiling grows with its scale. -/
theorem scaleUp_le_scaleUp (t : Nat) {c e : Scale} (hc : 0 < c.den) (he : 0 < e.den) (le : atMost c e) :
    scaleUp t c ≤ scaleUp t e := by
  refine (isCeil_scaleUp t hc).2 _ (Nat.le_of_mul_le_mul_right ?_ he)
  calc t * c.num * e.den
      = t * (c.num * e.den) := Nat.mul_assoc _ _ _
    _ ≤ t * (e.num * c.den) := Nat.mul_le_mul_left t le
    _ = t * e.num * c.den := (Nat.mul_assoc _ _ _).symm
    _ ≤ scaleUp t e * e.den * c.den := Nat.mul_le_mul_right _ (isCeil_scaleUp t he).1
    _ = scaleUp t e * c.den * e.den := Nat.mul_right_comm _ _ _

theorem atMost_iff {c e : Scale} (hc : 0 < c.den) (he : 0 < e.den) :
    atMost c e ↔ (c.num / c.den : ℚ) ≤ e.num / e.den := by
  rw [atMost, div_le_div_iff₀ (by exact_mod_cast hc) (by exact_mod_cast he)]
  exact_mod_cast Iff.rfl

/-- What R11 says of a well-formed table, as the waits need it. -/
structure GoodTable (family : List (Byte × Family)) : Prop where
  nonempty : family ≠ []
  nodup : (family.map Prod.fst).Nodup
  positive : ∀ e ∈ family, 0 < e.2.convScale.den

theorem goodTable_of_wellFormed {p : Params} (wf : p.wellFormed = true) : GoodTable p.family := by
  simp only [Params.wellFormed, familyCodesOk, Bool.and_eq_true, decide_eq_true_eq, List.all_eq_true] at wf
  obtain ⟨⟨⟨⟨⟨⟨⟨four, nodup⟩, -⟩, scales⟩, -⟩, -⟩, -⟩, -⟩ := wf
  refine ⟨?_, nodup, fun e mem => ?_⟩
  · rintro empty
    rw [empty] at four
    cases four
  · exact (of_decide_eq_true (scales e mem)).2

namespace GoodTable

section
variable {p : Params} {r : Resolution}

theorem familyOf_eq (h : GoodTable p.family) {c : Byte} {f : Family} (mem : (c, f) ∈ p.family) :
    familyOf p c = some f := by
  obtain ⟨before, after, table⟩ := List.append_of_mem mem
  have nodup := h.nodup
  rw [table, List.map_append, List.map_cons, List.nodup_append] at nodup
  rw [familyOf, List.lookup_eq_some_iff]
  exact ⟨before, after, table, fun e earlier =>
    bne_iff_ne.mpr (nodup.2.2 _ (List.mem_map_of_mem earlier) _ List.mem_cons_self).symm⟩

/-- A table has a record of the largest scale. -/
theorem exists_largest (h : GoodTable p.family) :
    ∃ e ∈ p.family, ∀ e' ∈ p.family, atMost e'.2.convScale e.2.convScale := by
  obtain ⟨e, mem, largest⟩ := p.family.toFinset.exists_max_image
    (fun e => (e.2.convScale.num / e.2.convScale.den : ℚ)) (List.toFinset_nonempty_iff _ |>.mpr h.nonempty)
  rw [List.mem_toFinset] at mem
  exact ⟨e, mem, fun e' mem' =>
    (atMost_iff (h.positive _ mem') (h.positive _ mem)).mpr (largest e' (List.mem_toFinset.mpr mem'))⟩

/-- The broadcast bound is the wait of the largest scale (log 20). -/
theorem tWaitAll_eq (h : GoodTable p.family) {e : Byte × Family} (mem : e ∈ p.family)
    (largest : ∀ e' ∈ p.family, atMost e'.2.convScale e.2.convScale) :
    tWaitAll p r = tWait p r e.2.convScale := by
  rw [tWaitAll, List.foldl_eq_foldr]
  refine le_antisymm (List.max_le_of_forall_le _ _ ?_) (List.le_max_of_le (List.mem_map_of_mem mem) le_rfl)
  rw [List.forall_mem_map]
  exact fun e' mem' => scaleUp_le_scaleUp _ (h.positive _ mem') (h.positive _ mem) (largest e' mem')

end

end GoodTable

/-! ### The blocking policy (R264, R268) -/

/-- The bounds of R262: a family's, and that of the largest scale. -/
theorem waits_are_ceilings {p : Params} (r : Resolution) (wf : p.wellFormed = true) :
    (∀ (a : Addr) (f : Family), (a[0], f) ∈ p.family → isCeil (perRes p.tConv r) f.convScale (tWaitDev p r a)) ∧
    (∃ e ∈ p.family, (∀ e' ∈ p.family, atMost e'.2.convScale e.2.convScale) ∧
      isCeil (perRes p.tConv r) e.2.convScale (tWaitAll p r)) := by
  have table := goodTable_of_wellFormed wf
  refine ⟨fun a f mem => ?_, ?_⟩
  · rw [tWaitDev, table.familyOf_eq mem]
    exact isCeil_scaleUp _ (table.positive _ mem)
  · obtain ⟨e, mem, largest⟩ := table.exists_largest
    refine ⟨e, mem, largest, ?_⟩
    rw [table.tWaitAll_eq mem largest]
    exact isCeil_scaleUp _ (table.positive _ mem)

/-- Settles O52, by the runs of the commands with one `Delay` (`Starts.tail_blocking`, `Starts.waitsOut`) and the lengths
of the waits (`waits_are_ceilings`). -/
theorem blockingWaitLastsItsBound : Obligations.BlockingWaitLastsItsBound := by
  refine ⟨fun s roomy waits noPoll => ⟨?_, fun valid => ?_, fun a u lookup => ?_⟩,
    fun p r wf => waits_are_ceilings r wf, by decide⟩
  · have starts := starts_all s
    exact ⟨_, exec_reqTemps (starts.tail_blocking waits noPoll) (le_trans (by decide) roomy), starts.waitsOut⟩
  · have starts := starts_one s.addrIn s
    exact ⟨_, exec_reqTempAddr valid (starts.tail_blocking waits noPoll) (le_trans (by decide) roomy), starts.waitsOut⟩
  · have starts := starts_one a u
    have frame := onlyTheBus.of_pcGetAddr lookup
    have params : u.params = s.params := by rw [frame]
    rw [params] at starts
    have index : s.arg.toNat < 256 := s.arg.isLt
    have room : 4 * 0 + 4 * s.arg.toNat + 36 ≤ s.quantum := by unfold Roomy at roomy; omega
    have tail := starts.tail_blocking (d := tWaitDev s.params s.globalRes a) (by rw [frame]; exact waits)
      (by rw [frame]; exact noPoll)
    exact ⟨_, exec_reqTempIdx lookup tail room, starts.waitsOut⟩

end Sys2Proof.Machine
end

section
/-! # The alarm commands (44_alarm.md R300 to R304)

Each command's lines run as its pseudocode says (Laws/Loops.lean), so a statement is that run within the quantum
(`Runs.done`, `runCommand_readPad`). ALARM_SEARCH and HAS_ALARM_ANY end in the same report of a search
(`runs_searchReport`). -/

namespace Sys2Proof.Machine

/-! ### The report of a search -/

theorem pcAlarmSearch_params (s : State) : (pcAlarmSearch s).2.params = s.params := by
  have frame := (onlyTheBusAndCursor.refl s).pcAlarmSearch
  rw [frame]

/-- The end of ALARM_SEARCH and of HAS_ALARM_ANY reports the address the search has left (R301, R303). -/
theorem alarmReport_begin (i : Instr) (l : Locals) (k : List Line) (t : State) :
    alarmReport (beginCommand i l k t) = beginCommand i l k (pcReport l.found t) := by
  unfold alarmReport pcReport
  rw [begin_loc]
  cases l.found <;> rfl

/-- One call of the search and the report of its result (R301, R303). -/
theorem runs_searchReport {i : Instr} {x : Act} (report : ∀ s, runAct x s = alarmReport s) (l : Locals) (t : State) :
    ∃ l', Runs i 325 [.act .alarmStart, .act x] l t l' (pcReport (pcAlarmSearch t).1 (pcAlarmSearch t).2) := by
  obtain ⟨l', found, -, search⟩ := runs_alarmSearch (i := i) l t
  refine ⟨l', search.append (ls' := [.act x]) (Runs.one fun k => ?_) (List.cons_ne_nil _ _)⟩
  rw [line_act, report, alarmReport_begin, found]

/-- The report of a call of the search, as the rules print it (R301, R303). -/
theorem pcReport_pcAlarmSearch (s : State) : pcReport (pcAlarmSearch s).1 (pcAlarmSearch s).2 =
    match pcAlarmSearch s with
    | (some a, t) =>
      setResult true (setCrcErr (crc8 s.params.crcPolyR (a.toList.take 7) != a[7]) { t with addrOut := a })
    | (none, t) => setResult false (setCrcErr false t) := by
  have params := pcAlarmSearch_params s
  rcases search : pcAlarmSearch s with ⟨found, t⟩
  rw [search] at params
  rw [← params]
  cases found with
  | none => rfl
  | some a => rfl

/-- Settles O54: the command is the reset of the cursor and the write of `RESULT`. -/
theorem asResetResult : Obligations.AsResetResult := by
  refine ⟨rfl, fun s roomy => ?_⟩
  have run : Runs .asReset 2 [.act .asReset, .act (.result true)] Locals.start s Locals.start
      (setResult true (actAsReset s)) := Runs.next (fun _ => rfl) (Runs.one fun _ => rfl)
  exact run.done (le_trans (by decide) roomy)

/-- Settles O55, by the run of the search and its report (`runs_searchReport`). -/
theorem alarmSearchResult : Obligations.AlarmSearchResult := by
  refine ⟨rfl, fun s roomy => ?_⟩
  obtain ⟨l, run⟩ := runs_searchReport (i := .alarmSearch) (x := .alarmOut) (fun _ => rfl) Locals.start s
  rw [pcReport_pcAlarmSearch] at run
  exact run.done (le_trans (by decide) roomy)

/-- Settles O59: the reset of the cursor, then the run of the search and its report (`runs_searchReport`). -/
theorem hasAlarmAnyResult : Obligations.HasAlarmAnyResult := by
  refine ⟨rfl, fun s roomy => ?_⟩
  obtain ⟨l, search⟩ :=
    runs_searchReport (i := .hasAlarmAny) (x := .hasAnyOut) (fun _ => rfl) Locals.start (actAsReset s)
  rw [pcReport_pcAlarmSearch] at search
  have run := Runs.next (x := .act .asReset) (t := s) (fun _ => rfl) search
  exact run.done (le_trans (by decide) roomy)

/-- Settles O60: the reset of the cursor, then the run of the drain (`runs_drain`). -/
theorem processAlarmsResult : Obligations.ProcessAlarmsResult := by
  refine ⟨rfl, fun s fuel err t drain room => ?_⟩
  obtain ⟨l, loop⟩ := runs_drain (i := .processAlarms) s.handlerId fuel Locals.start (actAsReset s) err t drain
  have run := Runs.next (x := .act .asReset) (t := s) (fun _ => rfl) loop
  exact run.done (by omega)

/-! ### HAS_ALARM_ADDR -/

/-- A whole number of degrees is below the floor of a value exactly if the next one is not above the value (R293). -/
theorem lt_fdiv_128 (n v : Int) : n < v.fdiv 128 ↔ 128 * (n + 1) ≤ v := by
  rw [Int.fdiv_eq_ediv_of_nonneg v (by decide)]
  omega

theorem fdiv_128_lt (n v : Int) : v.fdiv 128 < n ↔ v < 128 * n := by
  rw [Int.fdiv_eq_ediv_of_nonneg v (by decide)]
  omega

/-- `AlarmOf` (R293) without the division. -/
theorem alarmOf_iff {p : Params} {a : Addr} {sp : Pad} : alarmOf p a sp = true ↔
    padCrcOk p sp = true ∧ decodeTemp p a sp ≠ p.discFp.toInt ∧
    ((128 : Int) * (sp[2].toInt + 1) ≤ decodeTemp p a sp ∨ decodeTemp p a sp < (128 : Int) * sp[3].toInt) := by
  rw [← lt_fdiv_128, ← fdiv_128_lt]
  unfold alarmOf
  split
  next wrong => simp [wrong]
  next right =>
    rw [Bool.not_eq_false] at right
    split
    next sentinel => simp [sentinel]
    next value =>
      rw [decide_eq_true_iff]
      simp [right, value, s8]

/-- Settles O58, by the run of `ReadSPCore` and `alarmOf_iff`. -/
theorem hasAlarmAddrResult : Obligations.HasAlarmAddrResult := by
  refine ⟨rfl, fun s roomy => runCommand_readPad roomy fun l k pad => ?_, fun p a sp => ?_⟩
  · rw [runAct, actAlarmOfOut, begin_loc, pad]
    rfl
  · exact alarmOf_iff.trans (and_congr_left fun _ => padCrcOk_iff)

end Sys2Proof.Machine
end

section
/-! # One call of the alarm search (44_alarm.md R291, R292)

The equations of the search say once what a call is (`pcAlarmSearch_exhausted`, `pcAlarmSearch_absent`,
`pcAlarmSearch_present`) and what a bit position is (`pcAlarmBits_succ`); what every call performs and leaves is an
induction over the bit positions. -/

namespace Sys2Proof.Machine

/-! ### The equations of the search -/

section
variable {s : State}

theorem pcAlarmSearch_exhausted (exhausted : s.status.asExhausted = true) : pcAlarmSearch s = (none, s) := by
  rw [pcAlarmSearch, if_pos exhausted]

theorem pcAlarmSearch_absent (fresh : s.status.asExhausted = false) (absent : presenceAnswer s = false) :
    pcAlarmSearch s = (none, setExhausted true (pcReset s)) := by
  simp [pcAlarmSearch, fresh, absent]

theorem pcAlarmSearch_present (fresh : s.status.asExhausted = false) (present : presenceAnswer s = true) :
    pcAlarmSearch s =
      pcAlarmBits 64 0 (-1) true (perform (.writeByte s.params.wire.alarmSearch) (pcReset s)) := by
  simp [pcAlarmSearch, fresh, present]

end

/-- The decision of R291 on the answers the two read slots of bit `i` get next. -/
def branchAt (i : Nat) (last : Int) (done : Bool) (s : State) : Branch :=
  chooseBranch i (bitAnswer s) (bitAnswer (pcReadBit s)) s.asJunction (addrBit s.asAddr i) last done

/-- The state after the slots of bit `i`, the branch `w` taken and written (R291). -/
def takeBranch (i : Nat) (w : Branch) (s : State) : State :=
  perform (.writeBit w.bit)
    { pcReadBit (pcReadBit s) with asAddr := setAddrBit s.asAddr i w.bit, asJunction := w.junction }

@[simp] theorem takeBranch_asAddr (i : Nat) (w : Branch) (s : State) :
    (takeBranch i w s).asAddr = setAddrBit s.asAddr i w.bit := rfl

@[simp] theorem takeBranch_pullupOn (i : Nat) (w : Branch) (s : State) :
    (takeBranch i w s).status.pullupOn = false := rfl

/-- A bit position: nobody answers, or the branch is taken and the search goes on (R291). -/
theorem pcAlarmBits_succ (n i : Nat) (last : Int) (done : Bool) (s : State) :
    pcAlarmBits (n + 1) i last done s =
      if bitAnswer s && bitAnswer (pcReadBit s) then (none, setExhausted true (pcReadBit (pcReadBit s)))
      else pcAlarmBits n (i + 1) (branchAt i last done s).last (branchAt i last done s).done
        (takeBranch i (branchAt i last done s) s) := rfl

/-! ### What a call leaves in the cursor -/

theorem pcAlarmBits_none {n i : Nat} {last : Int} {done : Bool} {s : State}
    (nothing : (pcAlarmBits n i last done s).1 = none) :
    (pcAlarmBits n i last done s).2.status.asExhausted = true := by
  induction n generalizing i last done s with
  | zero => cases nothing
  | succ n ih =>
    rw [pcAlarmBits_succ] at nothing ⊢
    by_cases silent : bitAnswer s && bitAnswer (pcReadBit s)
    · rw [if_pos silent]
      rfl
    · rw [if_neg silent] at nothing ⊢
      exact ih nothing

/-- A call that finds nothing exhausts the cursor (R292). -/
theorem pcAlarmSearch_none {s : State} (nothing : (pcAlarmSearch s).1 = none) :
    (pcAlarmSearch s).2.status.asExhausted = true := by
  cases cursor : s.status.asExhausted with
  | true => rw [pcAlarmSearch_exhausted cursor, cursor]
  | false =>
    cases presence : presenceAnswer s with
    | true =>
      rw [pcAlarmSearch_present cursor presence] at nothing ⊢
      exact pcAlarmBits_none nothing
    | false =>
      rw [pcAlarmSearch_absent cursor presence]
      rfl

theorem pcAlarmBits_junction {n i : Nat} {last : Int} {done : Bool} {s : State} (bits : i + n ≤ 64)
    (junction : -1 ≤ s.asJunction ∧ s.asJunction ≤ 63) (range : -1 ≤ last ∧ last ≤ 63) :
    -1 ≤ (pcAlarmBits n i last done s).2.asJunction ∧ (pcAlarmBits n i last done s).2.asJunction ≤ 63 := by
  induction n generalizing i last done s with
  | zero => exact junction
  | succ n ih =>
    rw [pcAlarmBits_succ]
    split
    · exact junction
    · obtain ⟨junction', range'⟩ := chooseBranch_inRange (show i ≤ 63 by omega) junction range (bitAnswer s)
        (bitAnswer (pcReadBit s)) (addrBit s.asAddr i) done
      exact ih (by omega) junction' range'

/-- A call keeps the junction in its range (R54). -/
theorem pcAlarmSearch_junction {s : State} (junction : -1 ≤ s.asJunction ∧ s.asJunction ≤ 63) :
    -1 ≤ (pcAlarmSearch s).2.asJunction ∧ (pcAlarmSearch s).2.asJunction ≤ 63 := by
  unfold pcAlarmSearch
  split
  · exact junction
  · split
    · exact pcAlarmBits_junction (le_refl 64) junction (by decide)
    · exact junction

/-! ### What a call performs -/

/-- Events of an alarm search (R291): so many resets, and at most so many of each other kind. -/
structure SearchEvents (resets bytes reads writes : Nat) (es : List Event) : Prop where
  resets : es.countP isResetEvent = resets
  bytes : es.countP isWriteByteEvent ≤ bytes
  reads : es.countP isReadBitEvent ≤ reads
  writes : es.countP isWriteBitEvent ≤ writes
  only : es.all (fun e => isResetEvent e || isWriteByteEvent e || isReadBitEvent e || isWriteBitEvent e) = true

theorem SearchEvents.append {r b d w r' b' d' w' : Nat} {es es' : List Event} (h : SearchEvents r b d w es)
    (h' : SearchEvents r' b' d' w' es') : SearchEvents (r + r') (b + b') (d + d') (w + w') (es ++ es') where
  resets := by rw [List.countP_append, h.resets, h'.resets]
  bytes := by rw [List.countP_append]; exact Nat.add_le_add h.bytes h'.bytes
  reads := by rw [List.countP_append]; exact Nat.add_le_add h.reads h'.reads
  writes := by rw [List.countP_append]; exact Nat.add_le_add h.writes h'.writes
  only := by rw [List.all_append, h.only, h'.only]; rfl

theorem SearchEvents.mono {r b b' d d' w w' : Nat} {es : List Event} (h : SearchEvents r b d w es) (hb : b ≤ b')
    (hd : d ≤ d') (hw : w ≤ w') : SearchEvents r b' d' w' es :=
  ⟨h.resets, h.bytes.trans hb, h.reads.trans hd, h.writes.trans hw, h.only⟩

theorem pendingRelease_off {s : State} (off : s.status.pullupOn = false) : pendingRelease s = [] := by
  rw [pendingRelease, off]
  rfl

/-- The two read slots of a bit position, with no pull-up to release (R93, R97). -/
theorem readSlots_trace {s : State} (off : s.status.pullupOn = false) : (pcReadBit (pcReadBit s)).trace =
    s.trace ++ ([.readBit (bitAnswer s), .readBit (bitAnswer (pcReadBit s))] : List Event) := by
  rw [pcReadBit_trace, pcReadBit_trace, pendingRelease_off off, pendingRelease_off (pcReadBit_pullupOn s),
    List.append_assoc]
  rfl

theorem takeBranch_trace {s : State} (i : Nat) (w : Branch) (off : s.status.pullupOn = false) :
    (takeBranch i w s).trace = s.trace ++
      ([.readBit (bitAnswer s), .readBit (bitAnswer (pcReadBit s)), .writeBit w.bit] : List Event) := by
  have slots : (takeBranch i w s).trace = (pcReadBit (pcReadBit s)).trace ++ [.writeBit w.bit] := rfl
  rw [slots, readSlots_trace off, List.append_assoc]
  rfl

theorem pcAlarmBits_events {n i : Nat} {last : Int} {done : Bool} {s : State} (off : s.status.pullupOn = false) :
    ∃ es, (pcAlarmBits n i last done s).2.trace = s.trace ++ es ∧ SearchEvents 0 0 (2 * n) n es := by
  induction n generalizing i last done s with
  | zero => exact ⟨[], (List.append_nil _).symm, rfl, le_rfl, le_rfl, le_rfl, rfl⟩
  | succ n ih =>
    rw [pcAlarmBits_succ]
    split
    · have slots : SearchEvents 0 0 2 0 [.readBit (bitAnswer s), .readBit (bitAnswer (pcReadBit s))] :=
        ⟨rfl, le_rfl, le_rfl, le_rfl, rfl⟩
      exact ⟨_, readSlots_trace off, slots.mono le_rfl (by omega) (by omega)⟩
    · have slots : SearchEvents 0 0 2 1 [.readBit (bitAnswer s), .readBit (bitAnswer (pcReadBit s)),
        .writeBit (branchAt i last done s).bit] := ⟨rfl, le_rfl, le_rfl, le_rfl, rfl⟩
      obtain ⟨es, trace, events⟩ := ih (i := i + 1) (last := (branchAt i last done s).last)
        (done := (branchAt i last done s).done) (takeBranch_pullupOn i (branchAt i last done s) s)
      rw [takeBranch_trace i _ off, List.append_assoc] at trace
      exact ⟨_, trace, (slots.append events).mono le_rfl (by omega) (by omega)⟩

/-- What a call on a cursor that is not exhausted performs (R291). -/
theorem pcAlarmSearch_events {s : State} (fresh : s.status.asExhausted = false) :
    ∃ es, (pcAlarmSearch s).2.trace = s.trace ++ (pendingRelease s ++ es) ∧ SearchEvents 1 1 128 64 es := by
  cases presence : presenceAnswer s with
  | true =>
    rw [pcAlarmSearch_present fresh presence]
    obtain ⟨es, trace, events⟩ := pcAlarmBits_events (n := 64) (i := 0) (last := -1) (done := true)
      (perform_pullupOn (pcReset s) (.writeByte s.params.wire.alarmSearch))
    have start : SearchEvents 1 1 0 0 [.reset (presenceAnswer s), .writeByte s.params.wire.alarmSearch] :=
      ⟨rfl, le_rfl, le_rfl, le_rfl, rfl⟩
    refine ⟨_, trace.trans ?_, start.append events⟩
    simp [pendingRelease_off (pcReset_pullupOn s)]
  | false =>
    rw [pcAlarmSearch_absent fresh presence]
    exact ⟨[.reset (presenceAnswer s)], rfl, rfl, Nat.zero_le _, Nat.zero_le _, Nat.zero_le _, rfl⟩

/-- Settles O56: the events of a call (`pcAlarmSearch_events`) and what it leaves in the cursor (`pcAlarmSearch_none`,
`pcAlarmSearch_junction`). -/
theorem alarmSearchIsBounded : Obligations.AlarmSearchIsBounded := by
  refine fun s => ⟨pcAlarmSearch_exhausted, fun fresh => ?_, pcAlarmSearch_none, pcAlarmSearch_junction⟩
  obtain ⟨es, trace, events⟩ := pcAlarmSearch_events fresh
  exact ⟨es, trace, events.resets, events.bytes, events.reads, events.writes, events.only⟩

end Sys2Proof.Machine
end

section
/-! # A full alarm scan of a fixed set of devices (44_alarm.md R292)

Along the path of a device `d`, `lastFork devs d` is the last position where `d` goes to 0 and another device still
taking part goes to 1: after the call that finds `d` it is the cursor's junction. The next device in order is the one
whose path follows `d` up to that fork, turns to 1 there and then takes 0 wherever it can (`Route`), which is what the
search does from that cursor (`pcAlarmSearch_follows`). -/

namespace Sys2Proof.Machine

/-! ### The bits of an address (R108) -/

theorem setBit_getLsbD (b : Byte) {i k : Nat} (v : Bool) (hi : i < 8) (hk : k < 8) :
    (setBit b i v).getLsbD k = if k = i then v else b.getLsbD k := by
  have one : (1#8 <<< i).getLsbD k = decide (k = i) := by
    rw [← BitVec.twoPow_eq, BitVec.getLsbD_twoPow]
    simp [hi, eq_comm]
  cases v with
  | false =>
    change (b &&& ~~~(1#8 <<< i)).getLsbD k = _
    rw [BitVec.getLsbD_and, BitVec.getLsbD_not, one]
    by_cases same : k = i <;> simp [same, hk]
  | true =>
    change (b ||| (1#8 <<< i)).getLsbD k = _
    rw [BitVec.getLsbD_or, one]
    by_cases same : k = i <;> simp [same]

theorem addrBit_setAddrBit (a : Addr) {i : Nat} (k : Nat) (v : Bool) (hi : i < 64) :
    addrBit (setAddrBit a i v) k = if k = i then v else addrBit a k := by
  unfold addrBit setAddrBit
  rw [Vector.getElem?_setIfInBounds]
  by_cases byte : i / 8 = k / 8
  · have bit := setBit_getLsbD ((a[k / 8]?).getD 0) v (Nat.mod_lt i (by decide)) (Nat.mod_lt k (by decide))
    rw [if_pos byte, if_pos (by omega), Option.getD_some, byte, bit]
    exact if_congr (by omega) rfl rfl
  · rw [if_neg byte, if_neg (by omega)]

theorem addr_eq_of_addrBit {a c : Addr} (bits : ∀ i < 64, addrBit a i = addrBit c i) : a = c := by
  refine Vector.ext fun j hj => BitVec.eq_of_getLsbD_eq fun k hk => ?_
  have bit := bits (8 * j + k) (by omega)
  have byte : (8 * j + k) / 8 = j := by omega
  have place : (8 * j + k) % 8 = k := by omega
  simpa [addrBit, byte, place, hj] using bit

theorem precedes_asymm {a c : Addr} (h : precedes a c) : ¬ precedes c a := by
  obtain ⟨i, -, same, zero, one⟩ := h
  rintro ⟨k, -, same', zero', one'⟩
  rcases lt_trichotomy i k with before | rfl | after
  · exact absurd ((same' i before).symm.trans one) (by simp [zero])
  · exact absurd (zero'.symm.trans one) (by decide)
  · exact absurd ((same k after).symm.trans one') (by simp [zero'])

/-! ### The slots along a path -/

/-- The first slot of bit `i` along the path `a`: every device still taking part has a 1 (R291). -/
def onesSlot (devs : List Addr) (a : Addr) (i : Nat) : Bool := (taking devs a i).all (fun d => addrBit d i)

/-- The second slot of bit `i` along the path `a`: every device still taking part has a 0 (R291). -/
def zerosSlot (devs : List Addr) (a : Addr) (i : Nat) : Bool := (taking devs a i).all (fun d => !addrBit d i)

/-- The answers to the slots of `n` bit positions from bit `i`, along the path `a`. -/
def slotsFrom (devs : List Addr) (a : Addr) (i n : Nat) : List Bool :=
  (List.range' i n).flatMap (fun j => [onesSlot devs a j, zerosSlot devs a j])

theorem slotAnswers_eq (devs : List Addr) (a : Addr) : slotAnswers devs a = slotsFrom devs a 0 64 := by
  rw [slotAnswers, List.range_eq_range']
  rfl

theorem slotsFrom_succ (devs : List Addr) (a : Addr) (i n : Nat) :
    slotsFrom devs a i (n + 1) = onesSlot devs a i :: zerosSlot devs a i :: slotsFrom devs a (i + 1) n := rfl

section
variable {devs : List Addr} {a d e p : Addr} {i n : Nat}

theorem mem_taking : d ∈ taking devs a i ↔ d ∈ devs ∧ ∀ j < i, addrBit d j = addrBit a j := by
  simp [taking]

theorem onesSlot_eq_false : onesSlot devs a i = false ↔
    ∃ e ∈ devs, (∀ j < i, addrBit e j = addrBit a j) ∧ addrBit e i = false := by
  simp only [onesSlot, List.all_eq_false, mem_taking, Bool.not_eq_true, and_assoc]

theorem zerosSlot_eq_false : zerosSlot devs a i = false ↔
    ∃ e ∈ devs, (∀ j < i, addrBit e j = addrBit a j) ∧ addrBit e i = true := by
  simp only [zerosSlot, List.all_eq_false, mem_taking, Bool.not_eq_true', Bool.not_eq_false, and_assoc]

/-- A device's own bit shows in the slots of its path. -/
theorem onesSlot_of_mem (mem : d ∈ devs) (bit : addrBit d i = false) : onesSlot devs d i = false :=
  onesSlot_eq_false.mpr ⟨d, mem, fun _ _ => rfl, bit⟩

theorem zerosSlot_of_mem (mem : d ∈ devs) (bit : addrBit d i = true) : zerosSlot devs d i = false :=
  zerosSlot_eq_false.mpr ⟨d, mem, fun _ _ => rfl, bit⟩

/-! ### Forks -/

/-- At bit `i` the path `a` goes to 0 and a device still taking part goes to 1: the search will come back here. -/
abbrev Fork (devs : List Addr) (a : Addr) (i : Nat) : Prop := addrBit a i = false ∧ zerosSlot devs a i = false

/-- The last fork of a path below bit `i`, or -1. -/
def lastFork (devs : List Addr) (a : Addr) : Nat → Int
  | 0 => -1
  | i + 1 => if Fork devs a i then i else lastFork devs a i

theorem lastFork_fork (fork : Fork devs a i) : lastFork devs a (i + 1) = i := if_pos fork

theorem lastFork_ne_of_fork (fork : Fork devs a i) : lastFork devs a (i + 1) ≠ -1 := by
  rw [lastFork_fork fork]
  omega

theorem lastFork_no_fork (noFork : ¬ Fork devs a i) : lastFork devs a (i + 1) = lastFork devs a i := if_neg noFork

theorem lastFork_range : -1 ≤ lastFork devs a i ∧ lastFork devs a i < i := by
  induction i with
  | zero => exact ⟨le_rfl, Int.negSucc_lt_zero 0⟩
  | succ i ih =>
    unfold lastFork
    split <;> omega

theorem lastFork_eq_of_fork (fork : Fork devs a i) (below : i < n) (noFork : ∀ j, i < j → j < n → ¬ Fork devs a j) :
    lastFork devs a n = i := by
  induction n with
  | zero => omega
  | succ n ih =>
    by_cases last : i = n
    · subst last
      exact lastFork_fork fork
    · rw [lastFork_no_fork (noFork n (by omega) (by omega))]
      exact ih (by omega) fun j after below => noFork j after (by omega)

theorem lastFork_eq_neg_one (noFork : ∀ j < n, ¬ Fork devs a j) : lastFork devs a n = -1 := by
  induction n with
  | zero => rfl
  | succ n ih =>
    rw [lastFork_no_fork (noFork n n.lt_succ_self)]
    exact ih fun j below => noFork j (by omega)

theorem not_fork_of_one (one : addrBit a i = true) : ¬ Fork devs a i := fun fork => by
  cases one.symm.trans fork.1

/-- A fork of a path shows a device after it. -/
theorem Fork.later (fork : Fork devs a i) (hi : i < 64) :
    ∃ e ∈ devs, (∀ j < i, addrBit e j = addrBit a j) ∧ precedes a e := by
  obtain ⟨zero, slot⟩ := fork
  obtain ⟨e, mem, same, one⟩ := zerosSlot_eq_false.mp slot
  exact ⟨e, mem, same, i, hi, fun j below => (same j below).symm, zero, one⟩

/-- A collision where a path goes to 1 shows a device before it. -/
theorem earlier_of_onesSlot (slot : onesSlot devs a i = false) (one : addrBit a i = true) (hi : i < 64) :
    ∃ e ∈ devs, (∀ j < i, addrBit e j = addrBit a j) ∧ precedes e a := by
  obtain ⟨e, mem, same, zero⟩ := onesSlot_eq_false.mp slot
  exact ⟨e, mem, same, i, hi, same, zero, one⟩

/-! ### The route of a call -/

/-- From the cursor `p`, `j` the search goes to `d`: as `p` up to the junction, 1 at it, and 0 after it where it can. -/
structure Route (devs : List Addr) (p : Addr) (j : Int) (d : Addr) : Prop where
  mem : d ∈ devs
  range : -1 ≤ j ∧ j < 64
  before : ∀ i : Nat, (i : Int) < j → addrBit d i = addrBit p i
  turn : ∀ i : Nat, (i : Int) = j → addrBit d i = true ∧ onesSlot devs d i = false
  after : ∀ i : Nat, i < 64 → j < i → onesSlot devs d i = false → addrBit d i = false

/-- What the search has found at bit `i` of the route to `d`: up to the junction `j` the last fork is in `last`, beyond
it in the junction, and `done` says that there is none. -/
structure Tracks (devs : List Addr) (d : Addr) (j : Int) (i : Nat) (junction last : Int) (done : Bool) : Prop where
  done : done = decide (lastFork devs d i = -1)
  before : (i : Int) ≤ j → junction = j ∧ last = lastFork devs d i
  after : j < (i : Int) → junction = lastFork devs d i

variable {j junction last : Int} {done : Bool}

/-- A bit without a fork, other than the junction, changes nothing of what the search tracks. -/
theorem Tracks.pass (tracks : Tracks devs d j i junction last done) (noFork : ¬ Fork devs d i) (other : (i : Int) ≠ j) :
    Tracks devs d j (i + 1) junction last done where
  done := by rw [lastFork_no_fork noFork]; exact tracks.done
  before h := by rw [lastFork_no_fork noFork]; exact tracks.before (by omega)
  after h := by rw [lastFork_no_fork noFork]; exact tracks.after (by omega)

/-- The branch `w` goes on along the path of `d`, tracking its forks. -/
structure Follows (devs : List Addr) (d : Addr) (j : Int) (i : Nat) (w : Branch) : Prop where
  bit : w.bit = addrBit d i
  tracks : Tracks devs d j (i + 1) w.junction w.last w.done

/-- Where the slots differ the device's bit is the value present, and there is no fork. -/
theorem Route.follows_value (route : Route devs p j d) (tracks : Tracks devs d j i junction last done)
    (value : ¬ (onesSlot devs d i = false ∧ zerosSlot devs d i = false)) (prev : Bool) :
    Follows devs d j i (chooseBranch i (onesSlot devs d i) (zerosSlot devs d i) junction prev last done) := by
  have bit : onesSlot devs d i = addrBit d i := by
    cases bit : addrBit d i with
    | false => exact onesSlot_of_mem route.mem bit
    | true => exact Bool.eq_true_of_not_eq_false fun ones => value ⟨ones, zerosSlot_of_mem route.mem bit⟩
  have noFork : ¬ Fork devs d i := fun fork => value ⟨bit.trans fork.1, fork.2⟩
  have other : (i : Int) ≠ j := fun turn => by
    obtain ⟨one, ones⟩ := route.turn i turn
    rw [bit, one] at ones
    cases ones
  rw [chooseBranch, if_neg value]
  exact ⟨bit, tracks.pass noFork other⟩

/-- Where both values are present the junction decides: as before, then 1, then 0 (R291). -/
theorem Route.follows_collision (route : Route devs p j d) (tracks : Tracks devs d j i junction last done) (hi : i < 64)
    (ones : onesSlot devs d i = false) (zeros : zerosSlot devs d i = false) :
    Follows devs d j i (chooseBranch i false false junction (addrBit p i) last done) := by
  rw [chooseBranch, if_pos ⟨rfl, rfl⟩]
  rcases lt_trichotomy (i : Int) j with before | turn | after
  · obtain ⟨rfl, -⟩ := tracks.before before.le
    rw [if_neg before.ne, if_pos before, ← route.before i before]
    cases bit : addrBit d i with
    | true => exact ⟨bit.symm, tracks.pass (not_fork_of_one bit) before.ne⟩
    | false =>
      have fork : Fork devs d i := ⟨bit, zeros⟩
      exact ⟨bit.symm, (decide_eq_false (lastFork_ne_of_fork fork)).symm, fun _ => ⟨rfl, (lastFork_fork fork).symm⟩,
        fun h => absurd before (by omega)⟩
  · obtain ⟨rfl, rfl⟩ := tracks.before turn.le
    obtain ⟨one, -⟩ := route.turn i turn
    have noFork : ¬ Fork devs d i := not_fork_of_one one
    rw [if_pos turn]
    refine ⟨one.symm, ?_, fun h => absurd turn (by omega), fun _ => (lastFork_no_fork noFork).symm⟩
    rw [lastFork_no_fork noFork]
    exact tracks.done
  · have range := lastFork_range (devs := devs) (a := d) (i := i)
    have zero := route.after i hi after ones
    have fork : Fork devs d i := ⟨zero, zeros⟩
    obtain rfl := tracks.after after
    rw [if_neg range.2.ne', if_neg range.2.not_gt]
    exact ⟨zero.symm, (decide_eq_false (lastFork_ne_of_fork fork)).symm, fun h => absurd after (by omega),
      fun _ => (lastFork_fork fork).symm⟩

/-- On a route the decision of R291 follows the device's path. -/
theorem Route.follows (route : Route devs p j d) (tracks : Tracks devs d j i junction last done) (hi : i < 64) :
    Follows devs d j i
      (chooseBranch i (onesSlot devs d i) (zerosSlot devs d i) junction (addrBit p i) last done) := by
  by_cases both : onesSlot devs d i = false ∧ zerosSlot devs d i = false
  · obtain ⟨ones, zeros⟩ := both
    rw [ones, zeros]
    exact route.follows_collision tracks hi ones zeros
  · exact route.follows_value tracks both _

/-! ### One call -/

/-- What a call that finds `d` leaves: the cursor at `d`, its junction the last fork and exhausted if there is none; the
slots' answers used up to `rest`. -/
structure Visited (devs : List Addr) (d : Addr) (rest presence : List Bool) (u : State) : Prop where
  address : u.asAddr = d
  junction : u.asJunction = lastFork devs d 64
  exhausted : u.status.asExhausted = decide (lastFork devs d 64 = -1)
  bits : u.env.bits.script = rest
  presence : u.env.presence.script = presence

/-- The two slots of a bit position read the next two scripted answers (R93). -/
theorem slots_answers {t : State} {b nb : Bool} {rest : List Bool} (bits : t.env.bits.script = b :: nb :: rest) :
    bitAnswer t = b ∧ bitAnswer (pcReadBit t) = nb ∧ (restAnswers (restAnswers t.env.bits)).script = rest := by
  simp [bitAnswer, nextAnswer, restAnswers, bits]

theorem slots_not_both (mem : d ∈ devs) : (onesSlot devs d i && zerosSlot devs d i) = false := by
  cases bit : addrBit d i with
  | false => rw [onesSlot_of_mem mem bit]; rfl
  | true => rw [zerosSlot_of_mem mem bit, Bool.and_false]

/-- From bit `i` on, the search follows the route to `d` (R291): the cursor's address is `d` below the bit and still `p`
from it on. -/
theorem pcAlarmBits_follows (route : Route devs p j d) {rest presence : List Bool} {t : State} (positions : i + n = 64)
    (path : ∀ k < 64, addrBit t.asAddr k = if k < i then addrBit d k else addrBit p k)
    (tracks : Tracks devs d j i t.asJunction last done) (bits : t.env.bits.script = slotsFrom devs d i n ++ rest)
    (answered : t.env.presence.script = presence) (fresh : t.status.asExhausted = false) :
    ∃ u, pcAlarmBits n i last done t = (some d, u) ∧ Visited devs d rest presence u := by
  induction n generalizing i last done t with
  | zero =>
    obtain rfl : i = 64 := positions
    have address : t.asAddr = d := addr_eq_of_addrBit fun k hk => (path k hk).trans (if_pos hk)
    refine ⟨setExhausted (t.status.asExhausted || done) t, by rw [pcAlarmBits, address],
      address, tracks.after route.range.2, ?_, bits, answered⟩
    rw [setExhausted_asExhausted, fresh, Bool.false_or, tracks.done]
  | succ n ih =>
    have hi : i < 64 := by omega
    obtain ⟨ones, zeros, left⟩ := slots_answers bits
    have branch : branchAt i last done t =
        chooseBranch i (onesSlot devs d i) (zerosSlot devs d i) t.asJunction (addrBit p i) last done := by
      rw [branchAt, ones, zeros, path i hi, if_neg (lt_irrefl i)]
    have follows := route.follows tracks hi
    rw [← branch] at follows
    rw [pcAlarmBits_succ, ones, zeros, slots_not_both route.mem]
    refine ih (by omega) (fun k hk => ?_) follows.tracks left answered fresh
    rw [takeBranch_asAddr, addrBit_setAddrBit _ _ _ hi, follows.bit, path k hk]
    grind

/-- A call from a cursor with a route to `d` finds `d` (R291, R292). -/
theorem pcAlarmSearch_follows {t : State} {rest presence : List Bool} (route : Route devs t.asAddr t.asJunction d)
    (fresh : t.status.asExhausted = false) (present : t.env.presence.script = true :: presence)
    (bits : t.env.bits.script = slotAnswers devs d ++ rest) :
    ∃ u, pcAlarmSearch t = (some d, u) ∧ Visited devs d rest presence u := by
  have answer : presenceAnswer t = true := by simp [presenceAnswer, nextAnswer, present]
  rw [pcAlarmSearch_present fresh answer]
  have range := route.range
  have tracks : Tracks devs d t.asJunction 0 t.asJunction (-1) true :=
    ⟨rfl, fun _ => ⟨rfl, rfl⟩, fun h => by change t.asJunction = -1; omega⟩
  refine pcAlarmBits_follows route (zero_add 64) (fun k _ => rfl) tracks ?_ ?_ fresh
  · exact bits.trans (congrArg (· ++ rest) (slotAnswers_eq devs d))
  · exact congrArg List.tail present

/-! ### The order of the devices -/

/-- The initial cursor (R290) has a route to the first device. -/
theorem route_first (p : Addr) (mem : d ∈ devs) (first : ∀ e ∈ devs, ¬ precedes e d) : Route devs p (-1) d where
  mem := mem
  range := by decide
  before i below := absurd below (by omega)
  turn i here := absurd here (by omega)
  after i hi _ ones := Bool.eq_false_of_not_eq_true fun one =>
    have ⟨e, mem, _, earlier⟩ := earlier_of_onesSlot ones one hi
    first e mem earlier

/-- A path without a device after it has no fork. -/
theorem lastFork_of_last (last : ∀ e ∈ devs, ¬ precedes d e) : lastFork devs d 64 = -1 :=
  lastFork_eq_neg_one fun _ hi fork =>
    have ⟨e, mem, _, later⟩ := fork.later hi
    last e mem later

/-- Between neighbours the last fork is the bit at which they part. -/
theorem route_next (memP : p ∈ devs) (memD : d ∈ devs) (order : precedes p d)
    (between : ∀ e ∈ devs, precedes p e → ¬ precedes e d) :
    Route devs p (lastFork devs p 64) d ∧ lastFork devs p 64 ≠ -1 := by
  obtain ⟨m, hm, same, zero, one⟩ := order
  have fork : Fork devs p m := ⟨zero, zerosSlot_eq_false.mpr ⟨d, memD, fun k below => (same k below).symm, one⟩⟩
  have parts : lastFork devs p 64 = m := by
    refine lastFork_eq_of_fork fork hm fun k after hk fork' => ?_
    obtain ⟨e, mem, sameE, later⟩ := fork'.later hk
    refine between e mem later ⟨m, hm, fun q below => ?_, (sameE m after).trans zero, one⟩
    rw [sameE q (by omega), same q below]
  rw [parts]
  refine ⟨⟨memD, by omega, fun i below => (same i (by omega)).symm, fun i here => ?_, fun i hi after ones => ?_⟩,
    by omega⟩
  · obtain rfl : i = m := by omega
    exact ⟨one, onesSlot_eq_false.mpr ⟨p, memP, same, zero⟩⟩
  · refine Bool.eq_false_of_not_eq_true fun bit => ?_
    obtain ⟨e, mem, sameE, earlier⟩ := earlier_of_onesSlot ones bit hi
    refine between e mem ⟨m, hm, fun q below => ?_, zero, (sameE m (by omega)).trans one⟩ earlier
    rw [sameE q (by omega), same q below]

end

/-- In increasing order, no device lies between two neighbours. -/
theorem none_between {before rest : List Addr} {p d : Addr} (order : (before ++ p :: d :: rest).Pairwise precedes) :
    ∀ e ∈ before ++ p :: d :: rest, precedes p e → ¬ precedes e d := by
  obtain ⟨-, tail, cross⟩ := List.pairwise_append.mp order
  obtain ⟨-, tail⟩ := List.pairwise_cons.mp tail
  obtain ⟨afterD, -⟩ := List.pairwise_cons.mp tail
  intro e mem later earlier
  simp only [List.mem_append, List.mem_cons] at mem
  rcases mem with mem | rfl | rfl | mem
  · exact precedes_asymm later (cross e mem p (List.mem_cons_self ..))
  · exact precedes_asymm later later
  · exact precedes_asymm earlier earlier
  · exact precedes_asymm earlier (afterD e mem)

theorem none_after_last {before : List Addr} {d : Addr} (order : (before ++ [d]).Pairwise precedes) :
    ∀ e ∈ before ++ [d], ¬ precedes d e := by
  obtain ⟨-, -, cross⟩ := List.pairwise_append.mp order
  intro e mem later
  rcases List.mem_append.mp mem with mem | mem
  · exact precedes_asymm later (cross e mem d (List.mem_singleton_self d))
  · obtain rfl := List.mem_singleton.mp mem
    exact precedes_asymm later later

theorem none_before_first {rest : List Addr} {d : Addr} (order : (d :: rest).Pairwise precedes) :
    ∀ e ∈ d :: rest, ¬ precedes e d := by
  obtain ⟨after, -⟩ := List.pairwise_cons.mp order
  intro e mem earlier
  rcases List.mem_cons.mp mem with rfl | mem
  · exact precedes_asymm earlier earlier
  · exact precedes_asymm earlier (after e mem)

/-! ### The calls of a scan -/

theorem alarmCalls_succ {s u : State} {found : Option Addr} (n : Nat) (call : pcAlarmSearch s = (found, u)) :
    alarmCalls (n + 1) s = (found :: (alarmCalls n u).1, (alarmCalls n u).2) := by
  rw [alarmCalls, call]

theorem alarmCalls_add (m n : Nat) (s : State) : alarmCalls (m + n) s =
    ((alarmCalls m s).1 ++ (alarmCalls n (alarmCalls m s).2).1, (alarmCalls n (alarmCalls m s).2).2) := by
  induction m generalizing s with
  | zero => rw [Nat.zero_add]; rfl
  | succ m ih => rw [Nat.succ_add, alarmCalls, ih]; rfl

theorem alarmCalls_exhausted {s : State} (exhausted : s.status.asExhausted = true) (n : Nat) :
    alarmCalls n s = (List.replicate n none, s) := by
  induction n with
  | zero => rfl
  | succ n ih => rw [alarmCalls_succ n (pcAlarmSearch_exhausted exhausted), ih]; rfl

/-- The cursor stands before the devices `ds` still to find: on the route to the first of them, or exhausted. -/
def Ready (devs : List Addr) (t : State) : List Addr → Prop
  | [] => t.status.asExhausted = true
  | d :: _ => t.status.asExhausted = false ∧ Route devs t.asAddr t.asJunction d

/-- After the call that finds `d` the cursor stands before the devices after it. -/
theorem Visited.ready {before rest : List Addr} {d : Addr} {r ps : List Bool} {u : State}
    (visited : Visited (before ++ d :: rest) d r ps u) (order : (before ++ d :: rest).Pairwise precedes) :
    Ready (before ++ d :: rest) u rest := by
  cases rest with
  | nil => exact visited.exhausted.trans (decide_eq_true (lastFork_of_last (none_after_last order)))
  | cons e rest =>
    obtain ⟨-, tail, -⟩ := List.pairwise_append.mp order
    have neighbours : precedes d e := List.rel_of_pairwise_cons tail (List.mem_cons_self ..)
    obtain ⟨route, forked⟩ := route_next (by simp) (by simp) neighbours (none_between order)
    refine ⟨visited.exhausted.trans (decide_eq_false forked), ?_⟩
    rw [visited.address, visited.junction]
    exact route

/-- The calls find the devices the cursor stands before, in order, and exhaust it with the last (R292). -/
theorem alarmCalls_visit {devs : List Addr} (order : devs.Pairwise precedes) {restP restB : List Bool}
    {ds before : List Addr} (split : devs = before ++ ds) {t : State} (ready : Ready devs t ds)
    (presence : t.env.presence.script = List.replicate ds.length true ++ restP)
    (bits : t.env.bits.script = ds.flatMap (slotAnswers devs) ++ restB) :
    (alarmCalls ds.length t).1 = ds.map some ∧
    (∀ k < ds.length, (alarmCalls k t).2.status.asExhausted = false) ∧
    (alarmCalls ds.length t).2.status.asExhausted = true := by
  induction ds generalizing before t with
  | nil => exact ⟨rfl, fun k hk => absurd hk k.not_lt_zero, ready⟩
  | cons d rest ih =>
    obtain ⟨fresh, route⟩ := ready
    rw [List.flatMap_cons, List.append_assoc] at bits
    obtain ⟨u, call, visited⟩ := pcAlarmSearch_follows route fresh presence bits
    have next : Ready devs u rest := by
      subst split
      exact visited.ready order
    obtain ⟨found, unfinished, exhausted⟩ := ih (before := before ++ [d]) (by rw [split]; simp) next
      visited.presence visited.bits
    rw [List.length_cons, alarmCalls_succ _ call]
    refine ⟨congrArg (some d :: ·) found, fun k hk => ?_, exhausted⟩
    cases k with
    | zero => exact fresh
    | succ k =>
      rw [alarmCalls_succ k call]
      exact unfinished k (Nat.lt_of_succ_lt_succ hk)

/-- The initial cursor (R290) stands before all devices. -/
theorem ready_actAsReset {devs : List Addr} (nonempty : devs ≠ []) (order : devs.Pairwise precedes) (s : State) :
    Ready devs (actAsReset s) devs := by
  cases devs with
  | nil => exact absurd rfl nonempty
  | cons d rest => exact ⟨rfl, route_first _ (List.mem_cons_self ..) (none_before_first order)⟩

/-- With nobody present, or nobody answering the first bit, a call finds nothing (R291). -/
theorem pcAlarmSearch_nobody {s : State} (fresh : s.status.asExhausted = false)
    (nobody : presenceAnswer s = false ∨ (bitAnswer s = true ∧ bitAnswer (pcReadBit s) = true)) :
    (pcAlarmSearch s).1 = none := by
  cases presence : presenceAnswer s with
  | false => rw [pcAlarmSearch_absent fresh presence]
  | true =>
    obtain ⟨one, other⟩ := nobody.resolve_left (by simp [presence])
    rw [pcAlarmSearch_present fresh presence, pcAlarmBits_succ, if_pos]
    exact Bool.and_eq_true_iff.mpr ⟨one, other⟩

/-- Settles O57: the calls visit the devices in order (`alarmCalls_visit`), every later one finds the cursor exhausted
(`alarmCalls_exhausted`), and with nobody there the first one exhausts it (`pcAlarmSearch_nobody`). -/
theorem alarmScanVisitsEachDeviceOnce : Obligations.AlarmScanVisitsEachDeviceOnce := by
  refine ⟨fun s devs more restP restB nonempty order presence bits => ?_, fun s nobody => ?_⟩
  · obtain ⟨found, unfinished, exhausted⟩ := alarmCalls_visit order (before := []) rfl
      (ready_actAsReset nonempty order s) presence bits
    rw [alarmCalls_add, alarmCalls_exhausted exhausted, found]
    exact ⟨rfl, unfinished, exhausted, rfl⟩
  · have nothing : (pcAlarmSearch (actAsReset s)).1 = none := pcAlarmSearch_nobody rfl nobody
    exact ⟨nothing, pcAlarmSearch_none nothing⟩

end Sys2Proof.Machine
end

section
/-! # Exceptions (60_exceptions.md)

An illegal request takes `IllegalCommand` as its next state (R331), and a host access while BUSY stays outside the
command (R332). -/

namespace Sys2Proof.Machine

/-! ### A host access while BUSY (R86, R87, R332) -/

/-- A read leaves the registers alone (R87), so only the turns and the log of reads differ. -/
theorem step_read_outside {s : State} {off : BitVec 6} {ts : List Turn} (turns : s.env.turns = .read off :: ts) :
    ∃ rd, step s = .next (withOutside s.status.illegal s.status.overrun ts rd s.quantum s) :=
  ⟨_, hostReadsHaveNoSideEffect s off ts turns⟩

/-- A write while BUSY acknowledges sticky bits, overruns or is ignored (R86). -/
theorem step_write_busy_outside {s : State} {off : BitVec 6} {v : Byte} {ts : List Turn}
    (busy : s.status.busy = true) (turns : s.env.turns = .write off v :: ts) :
    ∃ il ov, step s = .next (withOutside il ov ts s.reads s.quantum s) := by
  rw [writesWhileBusy s off v ts busy turns]
  split
  next => exact ⟨s.status.illegal && !v.getLsbD 2, s.status.overrun && !v.getLsbD 3, rfl⟩
  split
  next => exact ⟨s.status.illegal, true, rfl⟩
  next => exact ⟨s.status.illegal, s.status.overrun, rfl⟩

/-- Settles O16: neither a read nor a write leaves the fields outside the command, and a run of the block commutes with
a change of those (`runBlock_outside`). -/
theorem hostCannotReachTheCommand : Obligations.HostCannotReachTheCommand := by
  refine ⟨fun s x ts busy turns access => ?_, runBlock_outside⟩
  obtain ⟨off, rfl⟩ | ⟨off, v, rfl⟩ := access
  · obtain ⟨rd, next⟩ := step_read_outside turns
    exact ⟨_, _, rd, next⟩
  · obtain ⟨il, ov, next⟩ := step_write_busy_outside busy turns
    exact ⟨il, ov, _, next⟩

/-! ### The illegal request (R331, R336) -/

/-- A code that R113 does not assign is rejected by name (R116, R117). -/
theorem decode_unassigned {op : Byte} (unassigned : wellFormedCode op = false) :
    decode op = .error (.illegalCommand op) := by
  refine (decode_cases op).resolve_left fun ⟨i, _, code⟩ => ?_
  have assigned : wellFormedCode op = true := wellFormedCode_iff.mpr (mem_assignedCodes.mpr ⟨i, code⟩)
  exact absurd (unassigned.symm.trans assigned) Bool.false_ne_true

/-- A write of `CMD` on an idle block is accepted as a request (R111). -/
theorem step_write_cmd_idle {s : State} {op : Byte} {ts : List Turn} (idle : s.status.busy = false)
    (turns : s.env.turns = .write 0x00 op :: ts) : step s = acceptCommand op { s with env.turns := ts } := by
  have request : step s = requestCommand op { s with env.turns := ts } := step_write turns
  rw [request, requestCommand, if_neg (Bool.eq_false_iff.mp idle)]

/-- `LAST_CMD` takes the rejected byte before the exception is raised (R111, R331). -/
theorem acceptCommand_rejected {op : Byte} {e : DecodeError} (rejected : decode op = .error e) (s : State) :
    acceptCommand op s = .next (illegalCommand { s with lastCmd := op }) := by
  rw [acceptCommand, rejected]

/-- On an idle block `IllegalCommand` leaves BUSY 0 (R331). -/
theorem illegalCommand_idle {s : State} (idle : s.status.busy = false) : illegalCommand s =
    { s with status.illegal := true, status.result := false, status.busy := false } := by
  simp only [illegalCommand, idle]

/-- Settles O4: the request is accepted, its byte rejected, and BUSY is 0 as it was. -/
theorem illegalRequestTakesTheException : Obligations.IllegalRequestTakesTheException := by
  intro s op ts idle turns unassigned
  rw [step_write_cmd_idle idle turns, acceptCommand_rejected (decode_unassigned unassigned)]
  exact congrArg Host.Outcome.next (illegalCommand_idle idle)

end Sys2Proof.Machine
end

section
/-! # Reset, and a search that does not end (70_reset_and_hazards.md)

The reset input is a turn of its own (R370). A GET_COUNT whose search keeps giving addresses stays on its loop, of which
each step of the block uses up at most half an answer (`CountsOn.tick`, R389). -/

namespace Sys2Proof.Machine

/-! ### Reset (R370 to R373) -/

/-- The host's view of the reset state: the bytes of R371 at the 64 offsets of the map. -/
theorem hostByte_reset : (List.range 64).map (fun n => hostByte State.reset (BitVec.ofNat 6 n))
    = [0x00, 0x20, 0x07, 0x00, 0x00, 0x0C] ++ List.replicate 58 0x00 := by decide

/-- Settles O10: the fields by the definition of `State.reset`, the map offset by offset (`hostByte_reset`). -/
theorem resetValues : Obligations.ResetValues :=
  ⟨rfl, rfl, rfl, rfl, rfl, rfl, rfl, rfl, rfl, rfl, rfl, rfl, rfl, rfl, rfl, rfl, rfl, rfl, rfl, rfl, rfl,
    hostByte_reset⟩

theorem step_reset {s : State} {ts : List Turn} (turns : s.env.turns = .reset :: ts) :
    step s = .next (resetBlock { s with env.turns := ts }) := by
  unfold step nextTurn
  rw [turns]
  rfl

/-- Settles O11: the step is the reset of the block (`step_reset`), which sets every register and hidden state and
leaves what is no state of the block. -/
theorem resetFromAnyState : Obligations.ResetFromAnyState :=
  fun _ _ turns => ⟨_, step_reset turns, rfl, rfl, rfl, rfl, rfl, rfl, rfl, rfl, rfl⟩

/-! ### One step of the block at a line of a running command -/

section
variable {i : Instr} {l : Locals} {x : Line} {k : List Line} {t : State}

theorem tick_begin_release (due : releaseDue x t = true) :
    tick (beginCommand i l (x :: k) t) = beginCommand i l (x :: k) (busSetPullup false t) :=
  tick_release rfl due

/-- Without a release to make, and unless it is a `Delay`, a whole line is one step of the block. -/
theorem tick_begin_line (free : ¬ releaseDue x t = true) (noDelay : ∀ us, x ≠ .delay us) :
    tick (beginCommand i l (x :: k) t) = settle (wholeLine x (beginCommand i l k t)) := by
  have freeLine : ¬ releaseDue x (beginCommand i l k t) = true := free
  rw [wholeLine_eq noDelay, if_neg freeLine]
  exact tick_line rfl free

end

/-! ### GET_COUNT while its search goes on (R146, R157, R389) -/

/-- The next `m` answers of the search are addresses. -/
def GivesAddresses (m : Nat) (t : State) : Prop :=
  ∃ (as : List Addr) (rest : List (Option Addr)), as.length = m ∧ t.env.found.script = as.map some ++ rest

theorem GivesAddresses.searchNext {m : Nat} {t : State} (gives : GivesAddresses (m + 1) t) :
    ∃ a, foundAnswer t = some a ∧ GivesAddresses m (pcSearchNext t) := by
  obtain ⟨as, rest, length, script⟩ := gives
  obtain ⟨a, as, rfl⟩ := List.exists_cons_of_length_eq_add_one length
  exact ⟨a, foundAnswer_scripted script, as, rest, Nat.succ.inj length, pcSearchNext_scripted script⟩

/-- GET_COUNT is on its loop with `DEVICE_COUNT` still `c`, and has at least `n` steps of the block to make before the
search can answer anything but an address: two for each answer to come, and one for an answer at hand. -/
inductive CountsOn (c : Byte) (n : Nat) : State → Prop
  | starts {m : Nat} {t : State} (l : Locals) (count : t.deviceCount = c) (gives : GivesAddresses m t)
      (room : n ≤ 2 * m) : CountsOn c n (beginCommand .getCount l [.searchReset, .searchNext, .act .countFound] t)
  | searches {m : Nat} {t : State} (l : Locals) (count : t.deviceCount = c) (gives : GivesAddresses m t)
      (room : n ≤ 2 * m) : CountsOn c n (beginCommand .getCount l [.searchNext, .act .countFound] t)
  | counts {m : Nat} {t : State} (l : Locals) {a : Addr} (found : l.found = some a) (count : t.deviceCount = c)
      (gives : GivesAddresses m t) (room : n ≤ 2 * m + 1) :
    CountsOn c n (beginCommand .getCount l [.act .countFound] t)

theorem CountsOn.busy {c : Byte} {n : Nat} {s : State} (h : CountsOn c n s) : s.status.busy = true := by
  cases h with
  | _ => rfl

theorem CountsOn.deviceCount {c : Byte} {n : Nat} {s : State} (h : CountsOn c n s) : s.deviceCount = c := by
  cases h with
  | starts _ count | searches _ count | counts _ _ count => exact count

/-- With an address at hand the loop goes on, whether or not it counts it (R146). -/
theorem line_countFound_some {l : Locals} {a : Addr} (found : l.found = some a) (t : State) :
    ∃ l', wholeLine (.act .countFound) (beginCommand .getCount l [] t)
      = beginCommand .getCount l' [.searchNext, .act .countFound] t := by
  rw [line_act, runAct, actCountFound, begin_loc, found]
  by_cases valid : isValidAddr t.params a
  · exact ⟨{ l with n := countUp l.n }, congrArg (push [.searchNext, .act .countFound]) (if_pos valid)⟩
  · exact ⟨l, congrArg (push [.searchNext, .act .countFound]) (if_neg valid)⟩

/-- A step of the block uses up one of the steps the answers to come are good for. -/
theorem CountsOn.tick {c : Byte} {n : Nat} {s : State} (h : CountsOn c (n + 1) s) : CountsOn c n (tick s) := by
  cases h with
  | @starts m t l count gives room =>
    by_cases due : releaseDue .searchReset t = true
    · rw [tick_begin_release due]
      exact .starts l count gives (by omega)
    · rw [tick_begin_line due nofun, line_searchReset]
      exact .searches l count gives (by omega)
  | @searches m t l count gives room =>
    by_cases due : releaseDue .searchNext t = true
    · rw [tick_begin_release due]
      exact .searches l count gives (by omega)
    · obtain ⟨m, rfl⟩ : ∃ k, m = k + 1 := Nat.exists_eq_add_of_le' (by omega)
      obtain ⟨a, answer, left⟩ := gives.searchNext
      rw [tick_begin_line due nofun, line_searchNext]
      exact .counts _ answer count left (by omega)
  | counts l found count gives room =>
    obtain ⟨l', goesOn⟩ := line_countFound_some found _
    rw [tick_begin_line (x := .act .countFound) Bool.false_ne_true nofun, goesOn]
    exact .searches l' count gives (by omega)

theorem CountsOn.runBlock {c : Byte} {n : Nat} {s : State} (h : CountsOn c n s) : CountsOn c 0 (runBlock n s) := by
  induction n generalizing s with
  | zero => exact h
  | succ n ih => rw [runBlock_succ_busy n s h.busy]; exact ih h.tick

/-- Settles O33: the quantum does not use up the answers to come, so its run leaves GET_COUNT on its loop
(`CountsOn.runBlock`). -/
theorem unendingSearchKeepsBusy : Obligations.UnendingSearchKeepsBusy := by
  intro s as rest script room
  have begins : CountsOn s.deviceCount s.quantum
      (beginCommand .getCount Locals.start [.searchReset, .searchNext, .act .countFound] s) :=
    .starts Locals.start rfl ⟨as, rest, rfl, script⟩ room.le
  exact ⟨_, rfl, begins.runBlock.busy, begins.runBlock.deviceCount⟩

end Sys2Proof.Machine
end
